-- ==== Sys2Proof/Word.lean ====
section
/-! DEFINITION. The word types of the part and the plainest arithmetic: clamping, saturation and the arrangement of a list by a free number. -/

namespace Sys2Proof

/-- One byte on the medium or in the configuration image. -/
abbrev Byte := BitVec 8

/-- "Clamped to lo..hi" of spec/00_scope.md section 6.2, on natural numbers. -/
def clampNat (lo hi x : Nat) : Nat := if x < lo then lo else if hi < x then hi else x

/-- "Clamped to lo..hi" of spec/00_scope.md section 6.2, on integers. -/
def clampInt (lo hi x : Int) : Int := if x < lo then lo else if hi < x then hi else x

/-- "Saturates at hi" of spec/00_scope.md section 6.2. -/
def satNat (hi x : Nat) : Nat := if hi < x then hi else x

/-- A signed result "clamped to 0..hi". -/
def clampToNat (hi : Nat) (x : Int) : Nat := satNat hi x.toNat

/-- Put `a` in front of the element at place `i` (at the end when there is none). -/
def insertAt {α : Type} (a : α) : Nat → List α → List α
  | 0, l => a :: l
  | _ + 1, [] => [a]
  | i + 1, b :: l => b :: insertAt a i l

/-- The arrangement of a list that the number `k` selects. Every `k` gives an arrangement of the
same elements, and every arrangement is given by some `k`. -/
def arrange {α : Type} : Nat → List α → List α
  | _, [] => []
  | k, a :: l => insertAt a (k % (l.length + 1)) (arrange (k / (l.length + 1)) l)

end Sys2Proof
end

