-- ==== Sys2Proof/Syntax.lean ====
section
/-! DEFINITION. The commands of the part: one constructor of `Instr` per row of spec/opcode_table.json,
with the operands that the rules give the row, and the contents of the two telegrams. -/

namespace Sys2Proof

/-- The gap field of a STATE telegram (spec/12, section 12.2). -/
structure GapField where
  measured : BitVec 12
  valid : Bool
  target : BitVec 16
  deriving DecidableEq, Repr

/-- The move summary: stacked requesters from the bottom of the stack, stack depth, pending set. -/
structure MoveSummary where
  bottom : BitVec 3
  middle : BitVec 3
  top : BitVec 3
  depth : BitVec 2
  requests : BitVec 6
  deriving DecidableEq, Repr

/-- The active part of the move status. -/
structure MoveActive where
  slot : Byte
  requester : BitVec 3
  phase : BitVec 3
  deriving DecidableEq, Repr

/-- The parked-fault part of the move status. -/
structure ParkedFault where
  slot : Byte
  status : BitVec 4
  requester : BitVec 3
  mirror : Bool
  deriving DecidableEq, Repr

/-- The order echo as the telegram carries it. -/
structure EchoField where
  tag : Byte
  kind : Byte
  result : Byte
  deriving DecidableEq, Repr

/-- The calibration report. -/
structure CalReport where
  index : BitVec 3
  accepted : Bool
  number : BitVec 16
  contact : BitVec 16
  wear : BitVec 16
  hours : BitVec 16
  deriving DecidableEq, Repr

/-- The contents of a STATE telegram, every field as its code on the wire (R3, R4 and spec/12,
section 12.2). Bits that the layout does not assign are not part of the contents. -/
structure StateTelegram where
  source : Byte
  runState : BitVec 3
  role : BitVec 2
  position : BitVec 4
  branch : BitVec 2
  terminal : Bool
  hold : BitVec 7
  allowance : BitVec 16
  throughput : BitVec 12
  estimated : Bool
  limiting : Byte
  events : BitVec 20
  tripCause : Option Byte
  level : Option (BitVec 16)
  gap : Option GapField
  feed : Option (BitVec 16)
  summary : Option MoveSummary
  active : Option MoveActive
  parked : Option ParkedFault
  echo : Option EchoField
  report : Option CalReport
  deriving DecidableEq, Repr

/-- What every ORDER telegram holds besides its kind and argument (R5). -/
structure OrderHead where
  source : Byte
  target : Byte
  tag : Byte
  deriving DecidableEq, Repr

/-- The contents of an ORDER telegram (R5 and spec/12, section 12.3). -/
structure OrderTelegram where
  head : OrderHead
  kind : Byte
  arg : Option (BitVec 24)
  deriving DecidableEq, Repr

/-- The three analog channels (R38). -/
inductive Channel where
  | load | level | gapPos
  deriving DecidableEq, Repr

/-- The commands of the part, in the table's order. -/
inductive Instr where
  /-- POWER_ON_RESET (R195). -/
  | powerOnReset
  /-- PIN_RESET (R195). -/
  | pinReset
  /-- IMAGE_LOAD_END (R197): the bytes that were read from the configuration memory. -/
  | imageLoadEnd (bytes : List Byte)
  /-- CRYSTAL_FAILURE (R200). -/
  | crystalFailure
  /-- PERIOD_EXPIRY (R6). -/
  | periodExpiry
  /-- IDLE_GAP (R14). -/
  | idleGap
  /-- ATTEMPT_START (R10). -/
  | attemptStart
  /-- ATTEMPT_SUCCEEDS (R10). -/
  | attemptSucceeds
  /-- ATTEMPT_LOST (R11). -/
  | attemptLost
  /-- BACKOFF_END (R11). -/
  | backoffEnd
  /-- INVALID_TELEGRAM_DISCARD (R15). -/
  | invalidTelegramDiscard
  /-- STATE_TELEGRAM (R17): `own` says that the station drove every byte of it in one attempt and
  read each back equal (R16). -/
  | stateTelegram (own : Bool) (t : StateTelegram)
  /-- UNKNOWN_KIND (R176): an order whose kind code or argument form is wrong. -/
  | unknownKind (head : OrderHead) (kind : Byte) (arg : Option (BitVec 24))
  /-- START_LINE (R86). -/
  | startLine (head : OrderHead)
  /-- STOP_LINE (R98). -/
  | stopLine (head : OrderHead)
  /-- HOLD (R94). -/
  | hold (head : OrderHead)
  /-- RELEASE (R94). -/
  | release (head : OrderHead)
  /-- CLEAR_TRIP (R104). -/
  | clearTrip (head : OrderHead)
  /-- SET_GAP (R110). -/
  | setGap (head : OrderHead) (arg : BitVec 16)
  /-- SET_CAP (R71). -/
  | setCap (head : OrderHead) (arg : BitVec 16)
  /-- CALIBRATE (R181). -/
  | calibrate (head : OrderHead)
  /-- MOVE_RETRY (R148). -/
  | moveRetry (head : OrderHead)
  /-- MOVE_DISCARD (R149). -/
  | moveDiscard (head : OrderHead)
  /-- RESTORE_SCALE (R48). -/
  | restoreScale (head : OrderHead)
  /-- READ_CAL (R167). -/
  | readCal (head : OrderHead) (arg : BitVec 16)
  /-- LINER_CHANGED (R170). -/
  | linerChanged (head : OrderHead)
  /-- ACK_EVENTS (R186): a set of event kinds as the telegram carries it; bits 20 to 23 name none. -/
  | ackEvents (head : OrderHead) (kinds : BitVec 24)
  /-- SAMPLE_EVENT (R38): one converted reading of a channel. -/
  | sampleEvent (channel : Channel) (count : BitVec 12)
  /-- SCALE_PULSE (R43): one rising edge of SCALE. -/
  | scalePulse
  /-- TRAMP_ACTIVE_EDGE (R154). -/
  | trampActiveEdge
  /-- TRAMP_INACTIVE_EDGE (R156). -/
  | trampInactiveEdge
  /-- PULLCORD_ACTIVE_EDGE (R191). -/
  | pullcordActiveEdge
  /-- PULLCORD_INACTIVE_EDGE (R191). -/
  | pullcordInactiveEdge
  /-- RUN_FB_ACTIVE_EDGE (R89). -/
  | runFbActiveEdge
  /-- RUN_FB_INACTIVE_EDGE (R101). -/
  | runFbInactiveEdge
  /-- START_LIMIT_EXPIRY (R88). -/
  | startLimitExpiry
  /-- SPIN_UP_EXPIRY (R89). -/
  | spinUpExpiry
  /-- INTERLOCK_EXPIRY (R97). -/
  | interlockExpiry
  /-- DRAIN_EXPIRY (R100). -/
  | drainExpiry
  /-- SETTLE_TIMER_EXPIRY (R129). -/
  | settleTimerExpiry
  /-- RECORD_TIMER_EXPIRY (R133). -/
  | recordTimerExpiry
  /-- REMAINING_TIME_EXPIRY (R135). -/
  | remainingTimeExpiry
  /-- SECONDS_TIMER_EXPIRY (R168). -/
  | secondsTimerExpiry
  /-- RECEIVED_BYTE (R14): the byte, and whether its stop bit was not found (R1). -/
  | receivedByte (byte : Byte) (framingError : Bool)
  /-- RESET_ASSERTED (R195). -/
  | resetAsserted
  deriving DecidableEq, Repr

end Sys2Proof
end

