-- ==== Sys2Proof/Decode.lean ====
section
/-! DEFINITION. The commands that words spell. The part fetches no program: spec/opcode_table.json gives
no row a bit, so no word spells a command. (Telegrams are decoded in Machine/Telegram.lean and the
configuration image in Machine/Image.lean.) -/

namespace Sys2Proof

/-- The command that the `nbits` low bits of `w` spell by the table's bits: none, since no row of
spec/opcode_table.json gives bits. -/
def decodeTableWord (_nbits _w : Nat) : Option Instr := none

end Sys2Proof
end

