-- ==== Sys2Proof/Config.lean ====
section
/-! DEFINITION. Constants the manual fixes, and the free values: orders the manual leaves open. -/

namespace Sys2Proof.Config

/-- Bit times in a millisecond: at 250 kbit/s a bit time is 4 us (spec/01, section 1.1). -/
def bitTimesPerMs : Nat := 250

/-- Bit times in a second. -/
def bitTimesPerSecond : Nat := 250000

/-- The idle gap in bit times (R1). -/
def idleGap : Nat := 40

/-- The extra backoff of R11, in bit times for each unit of the station number. -/
def backoffStep : Nat := 24

/-- The longest backoff, that of station 30: 40 + 30 x 24 bit times (R11). -/
def longestBackoff : Nat := 760

/-- The time after an accepted scale pulse within which no edge is accepted, in bit times: 100 us (R43). -/
def pulseGap : Nat := 25

/-- The sample interval in milliseconds (R38). -/
def sampleIntervalMs : Nat := 50

/-- FREE VALUE. Selects the order in which the blocks take one period expiry (R29, R52, R62, R63, R99;
log entry 3). Applied to the count of free values used so far. -/
opaque expiryOrder : Nat → Nat

/-- FREE VALUE. Selects the order in which the notices of one sample, and a SELECTED trip that it
raises, are taken (R39, R42, R190; log entry 4). -/
opaque noticeOrder : Nat → Nat

/-- FREE VALUE. Selects the order in which expiries that fall due in one bit time arrive (log entry 7). -/
opaque dueOrder : Nat → Nat

/-- FREE VALUE. Whether a start bit, whose byte no command has reported yet, has been seen on the medium in the
idle time that would be complete now (R1; log entry 36). -/
opaque startBitSeen : Nat → Bool

/-- FREE VALUE. What ATTN shows at the station of R202 while no kind of the ATTN mask is pending: R202 says
active, R188 inactive, and no text of the spec ranks them (log entry 33). -/
opaque attnAfterRestart : Bool

end Sys2Proof.Config
end

