-- ==== Sys2Proof/Machine/State.lean ====
section
/-! DEFINITION. Everything the spec gives the part to hold, block by block, as plain data, and the state
right after a power-on reset. -/

namespace Sys2Proof.Machine

/-- No command of this part stops it: the spec gives every command an effect, and its own faults
(of moves, wires, images) are states. The type has no constructor. -/
inductive Fault where
  deriving DecidableEq, Repr

/-- Reasons for which a command has no meaning in the model. -/
inductive Refusal where
  /-- Raised only by an arm of `exec` whose command has no meaning yet (no arm now); safe. -/
  | notModelled (mnemonic : String)
  deriving DecidableEq, Repr

/-- A timer that measures bit times from its start (R6, R83, R125, R153). -/
inductive Timer where
  | stopped
  | running (elapsed : Nat)
  deriving DecidableEq, Repr

/-! ### Names of R3 and spec/12, section 12.1 -/

/-- Station roles (spec/00, section 3). -/
inductive Role where
  | feeder | crusher | bin
  deriving DecidableEq, Repr

/-- Run states (R83). -/
inductive RunState where
  | offline | ready | starting | running | holding | stopping | tripped
  deriving DecidableEq, Repr

/-- Sub-phases of STARTING (R83). -/
inductive SubPhase where
  | waitDownstream | spinUp
  deriving DecidableEq, Repr

/-- Trip causes (R102). -/
inductive TripCause where
  | pullcord | noFeedback | motorStopped | duplicate | trampUncleared | chainFaultHigh | clock
  | selected
  deriving DecidableEq, Repr

/-- Limiting terms (R59). -/
inductive LimitTerm where
  | gap | power | level | cap | supply | space | downstream | terminal | move | hold
  deriving DecidableEq, Repr

/-- The twenty event kinds (spec/10, section 10.1). -/
inductive EventKind where
  | tramp | overload | levelHigh | scaleLost | gapSensor | moveFault | limit | startTimeout
  | interlockStop | trip | duplicateNumber | peerTableFull | busContention | busSilent
  | chainNotify | calibrated | calRejected | calSuspect | linerWorn | clockFail
  deriving DecidableEq, Repr

/-- A set of event kinds, one bit for each in the order of spec/12, section 12.1. -/
abbrev EventSet := BitVec 20

/-- The hold set (R91): a set of seven causes. -/
structure HoldSet where
  tramp : Bool
  overload : Bool
  levelHigh : Bool
  move : Bool
  moveFault : Bool
  downstream : Bool
  ordered : Bool
  deriving DecidableEq, Repr

/-- The hold set with no cause. -/
def HoldSet.empty : HoldSet := ⟨false, false, false, false, false, false, false⟩

/-! ### Moves (chapter 6) -/

/-- Record kinds (R108). -/
inductive RecordKind where
  | gapTo | gapBy | touch | dwell | rateFor
  deriving DecidableEq, Repr

/-- Where the target of a GAP_TO comes from (R107). -/
inductive TargetSource where
  | absolute | standing
  deriving DecidableEq, Repr

/-- Feed conditions (R69). -/
inductive Feed where
  | none | reduce | stop
  deriving DecidableEq, Repr

/-- A stored move record (R107). Its status always reads NEW (R109), so it is not stored. -/
structure MoveRecord where
  kind : RecordKind
  targetSource : TargetSource
  argument : Int
  step : Int
  timeout : Nat
  feed : Feed
  notify : Bool
  update : Bool
  stop : Bool
  next : Nat
  deriving DecidableEq, Repr

/-- The six requesters (R111). -/
inductive Requester where
  | tramp | overload | orderGap | calibrate | start | schedule
  deriving DecidableEq, Repr

/-- A set of requesters (R125). -/
structure RequestSet where
  tramp : Bool
  overload : Bool
  orderGap : Bool
  calibrate : Bool
  start : Bool
  schedule : Bool
  deriving DecidableEq, Repr

/-- The request set with no member. -/
def RequestSet.empty : RequestSet := ⟨false, false, false, false, false, false⟩

/-- Record senses (R116, R117). -/
inductive Sense where
  | opening | closing
  deriving DecidableEq, Repr

/-- Directions of a drive: RAISE opens the gap, LOWER closes it (R130). -/
inductive Direction where
  | raise | lower
  deriving DecidableEq, Repr

/-- The working copy of a record (R113): nothing formed, target and sense of a gap record, the
sense CLOSING of a TOUCH, or the remaining time of a DWELL or RATE_FOR in bit times (log entry 6). -/
inductive Working where
  | none
  | gap (target : Nat) (sense : Sense)
  | touch
  | timed (remaining : Nat)
  deriving DecidableEq, Repr

/-- Phases (R113, R126): DRIVE has its direction, VERIFY its count of samples in the deadband. -/
inductive Phase where
  | load
  | settle
  | drive (direction : Direction)
  | verify (samples : Nat)
  | done
  | running
  deriving DecidableEq, Repr

/-- Fault statuses (R109). -/
inductive FaultStatus where
  | invalid | loop | sensor | timeoutOpening | timeoutClosing | hunting | noContact
  | feedNotStopped
  deriving DecidableEq, Repr

/-- The status of a context (R109). -/
inductive Status where
  | new
  | suspended
  | fault (status : FaultStatus)
  deriving DecidableEq, Repr

/-- The saved progress of a chain (R113). Its priority is that of its requester. -/
structure Context where
  requester : Requester
  mirror : Bool
  slot : Nat
  executed : Nat
  record : MoveRecord
  work : Working
  phase : Phase
  redrives : Nat
  status : Status
  deriving DecidableEq, Repr

/-- The requester that the level-1 token names (R125). -/
inductive TokenHigh where
  | orderGap | calibrate
  deriving DecidableEq, Repr

/-- The requester that the level-0 token names (R125). -/
inductive TokenLow where
  | start | schedule
  deriving DecidableEq, Repr

/-! ### The configuration image (R198 and spec/12, section 12.4) -/

/-- The chain head and mirror bit of a requester (R111). -/
structure Head where
  slot : Nat
  mirror : Bool
  deriving DecidableEq, Repr

/-- The configured values but for the 31 move records, which go to the move table (R199). -/
structure Image where
  number : Nat
  role : Role
  position : Nat
  branch : Nat
  terminal : Bool
  noFeedback : Bool
  aTerm : Nat
  panel1 : Nat
  panel2 : Nat
  tB : Nat
  lF : Nat
  kp : Nat
  r0Init : Nat
  w : Nat
  fMax : Nat
  uMin : Nat
  duUp : Nat
  pOvl : Nat
  pLim : Nat
  pIdle : Nat
  pTouch : Nat
  lHigh : Nat
  lSet : Nat
  lLow : Nat
  lTgt : Nat
  kc : Nat
  kl : Nat
  rRed : Nat
  mBin : Nat
  tH : Nat
  gMin : Nat
  gMax : Nat
  gInit : Nat
  db : Nat
  qIdle : Nat
  wJump : Nat
  wMax : Nat
  startLimit : Nat
  spinUpLimit : Nat
  interlockLimit : Nat
  drainTime : Nat
  settleLimit : Nat
  calInterval : Nat
  orderTimeout : Nat
  orderFeed : Feed
  attnMask : EventSet
  tripMask : EventSet
  headTramp : Head
  headOverload : Head
  headCalibrate : Head
  headStart : Head
  headSchedule : Head
  deriving DecidableEq, Repr

/-! ### The blocks -/

/-- Transmit states (R7). -/
inductive TxState where
  | idle | waitIdle | sending | backoff
  deriving DecidableEq, Repr

/-- Receive states (R14). -/
inductive RxState where
  | hunt | armed | collect
  deriving DecidableEq, Repr

/-- The line bus interface (R6, R7, R14, R19). -/
structure Lbi where
  tx : TxState
  attempts : Nat
  earlyPending : Bool
  inhibit : Bool
  /-- The contents of the attempt in progress or just succeeded (R9, R16). -/
  contents : Option StateTelegram
  periodTimer : Timer
  rx : RxState
  /-- The bytes stored in COLLECT, the delimiter included (R14). -/
  rxBytes : List Byte
  /-- The collection began while the station was driving (R16, log entry 12). -/
  rxDriven : Bool
  silent : Nat
  dupQuiet : Nat
  /-- Bit times since the last stop bit on the medium, up to the longest backoff (R1, R11). -/
  idleTime : Nat
  deriving DecidableEq, Repr

/-- A peer entry (R21). -/
structure PeerEntry where
  number : Nat
  role : Role
  position : Nat
  branch : Nat
  runState : RunState
  allowance : Nat
  throughput : Nat
  level : Option Nat
  age : Nat
  deriving DecidableEq, Repr

/-- Throughput sources (R47). -/
inductive Source where
  | scale | estimate
  deriving DecidableEq, Repr

/-- The measurement front end (R58). -/
structure Mfe where
  load : Nat
  level : Nat
  raw : Nat
  gap : Nat
  gapValid : Bool
  /-- A GAPPOS sample has been taken since leaving OFFLINE (R41). -/
  gapSampled : Bool
  pulses : Nat
  /-- Bit times since the last accepted scale pulse, stopped once an edge may be accepted again (R43, log
  entry 35). -/
  pulseTimer : Timer
  window : List Nat
  source : Source
  watchdog : Nat
  q : Nat
  estimated : Bool
  overload : Bool
  overloadCount : Nat
  levelHigh : Bool
  levelCount : Nat
  trampIn : Bool
  pullcordIn : Bool
  runFbIn : Bool
  /-- The 50 ms sample time base (R38). -/
  sampleBase : Timer
  deriving DecidableEq, Repr

/-- The allowance engine (R59). -/
structure Ale where
  a : Nat
  term : LimitTerm
  u : Nat
  residue : Nat
  supply : Bool
  cap : Nat
  deriving DecidableEq, Repr

/-- The run-state controller (R83). -/
structure Rsc where
  runState : RunState
  subPhase : Option SubPhase
  hold : HoldSet
  tripCause : Option TripCause
  startTimer : Timer
  spinTimer : Timer
  interlockTimer : Timer
  drainTimer : Timer
  deriving DecidableEq, Repr

/-- The move engine (R106, R110, R125). The heads and mirror bits are in the image. -/
structure Mve where
  table : List MoveRecord
  gSet : Nat
  active : Option Context
  /-- The suspension stack, bottom first. -/
  stack : List Context
  /-- The fault slot. -/
  parked : Option Context
  requests : RequestSet
  tokenHigh : TokenHigh
  tokenLow : TokenLow
  settleTimer : Timer
  recordTimer : Timer
  /-- The ALE has taken a period-expiry action since SETTLE was entered (R128). -/
  aleActed : Bool
  deriving DecidableEq, Repr

/-- A record of the wear ring (R165). -/
structure CalRecord where
  number : Nat
  contact : Nat
  wear : Int
  hours : Nat
  accepted : Bool
  deriving DecidableEq, Repr

/-- The calibration and wear unit (R153). -/
structure Cwu where
  r0 : Nat
  /-- r0 has been set from an image since power-on (R199, log entry 2). -/
  r0Set : Bool
  attempts : Nat
  loadCount : Nat
  stillCount : Nat
  reference : Option Nat
  calNumber : Nat
  /-- The wear ring, oldest first. -/
  ring : List CalRecord
  totalWear : Int
  seconds : Nat
  secondsTimer : Timer
  sinceCal : Nat
  hours : Nat
  minutes : Nat
  due : Bool
  selection : Nat
  deriving DecidableEq, Repr

/-- Results of an order (R173). -/
inductive OrderResult where
  | accepted | clamped | refusedState | refusedRole | notPermitted | unknownKind
  deriving DecidableEq, Repr

/-- The order echo (R173): the kind is the code as received. -/
structure Echo where
  tag : Byte
  kind : Byte
  result : OrderResult
  deriving DecidableEq, Repr

/-- The event unit (R185); its masks are in the image (R187). -/
structure Evu where
  events : EventSet
  deriving DecidableEq, Repr

/-- Image validity (R197). -/
inductive Validity where
  | loading | valid | invalid
  deriving DecidableEq, Repr

/-- Clock sources (R200). -/
inductive ClockSource where
  | crystal | internal
  deriving DecidableEq, Repr

/-- The two resets (R195). -/
inductive ResetKind where
  | powerOn | pin
  deriving DecidableEq, Repr

/-- Which of the two resets are asserted. RESET_ASSERTED does not say which one it asserts: `one` is the one or the
other, and `only` the one that is left after the release of the other (R195, log entry 37). -/
inductive ResetLines where
  | released | one | only (kind : ResetKind) | both
  deriving DecidableEq, Repr

/-- The configuration loader and clock (R195, R197, R200). -/
structure Cfg where
  validity : Validity
  clock : ClockSource
  crystalCount : Nat
  image : Image
  lastReset : ResetKind
  /-- The resets that are asserted: while one is, the part takes no event (R195). -/
  asserted : ResetLines
  /-- The last reset arrived while the source was INTERNAL, and the bit time of its release, in which an absent
  crystal fails again, is not over (R202, log entry 33). -/
  restartWatch : Bool
  /-- That reset did not find the crystal: the watch failed again in that bit time (R202, log entry 33). -/
  crystalMissed : Bool
  deriving DecidableEq, Repr

/-- The outputs (R196). -/
structure Pins where
  run : Bool
  raise : Bool
  lower : Bool
  feed : Nat
  permit : Bool
  attn : Bool
  txEnable : Bool
  deriving DecidableEq, Repr

/-- The whole part, and the commands that wait. -/
structure State where
  lbi : Lbi
  peers : List PeerEntry
  mfe : Mfe
  ale : Ale
  rsc : Rsc
  mve : Mve
  cwu : Cwu
  echo : Option Echo
  evu : Evu
  cfg : Cfg
  pins : Pins
  /-- The model's own: how many free values have been used (log entry 3). -/
  draws : Nat
  /-- The commands that wait, first in first out. -/
  pending : List Instr
  deriving DecidableEq, Repr

/-! ### Reset values -/

/-- The image registers before a valid load: every field at the lowest value of its range in R198.
DESIGN CHOICE, log entry 1. -/
def Image.blank : Image where
  number := 1
  role := .feeder
  position := 1
  branch := 0
  terminal := false
  noFeedback := false
  aTerm := 0
  panel1 := 0
  panel2 := 0
  tB := 100
  lF := 2
  kp := 1
  r0Init := 1
  w := 0
  fMax := 1
  uMin := 0
  duUp := 1
  pOvl := 501
  pLim := 500
  pIdle := 20
  pTouch := 100
  lHigh := 100
  lSet := 0
  lLow := 0
  lTgt := 0
  kc := 1
  kl := 0
  rRed := 0
  mBin := 1
  tH := 60
  gMin := 0
  gMax := 1
  gInit := 0
  db := 1
  qIdle := 0
  wJump := 1
  wMax := 1
  startLimit := 10
  spinUpLimit := 1
  interlockLimit := 1
  drainTime := 5
  settleLimit := 5
  calInterval := 60
  orderTimeout := 1
  orderFeed := .none
  attnMask := 0#20
  tripMask := 0#20
  headTramp := ⟨0, false⟩
  headOverload := ⟨0, false⟩
  headCalibrate := ⟨0, false⟩
  headStart := ⟨0, false⟩
  headSchedule := ⟨0, false⟩

/-- A slot before a valid load. DESIGN CHOICE, log entry 1. -/
def MoveRecord.blank : MoveRecord where
  kind := .gapTo
  targetSource := .absolute
  argument := 0
  step := 0
  timeout := 1
  feed := .none
  notify := false
  update := false
  stop := false
  next := 0

/-- The LBI after either reset (R7, R19). -/
def Lbi.reset : Lbi where
  tx := .idle
  attempts := 0
  earlyPending := false
  inhibit := false
  contents := none
  periodTimer := .stopped
  rx := .hunt
  rxBytes := []
  rxDriven := false
  silent := 0
  dupQuiet := 2
  idleTime := 0

/-- The MFE after either reset (R58), with no pulse accepted yet (DESIGN CHOICE, log entry 35). The source and
the estimated flag, which role and w settle only at the hand-over (R58, R199), stand at SCALE and clear until
then (DESIGN CHOICE, log entry 31). -/
def Mfe.reset : Mfe where
  load := 0
  level := 0
  raw := 0
  gap := 0
  gapValid := false
  gapSampled := false
  pulses := 0
  pulseTimer := .stopped
  window := [0, 0, 0, 0, 0, 0, 0, 0, 0, 0, 0, 0, 0, 0, 0, 0]
  source := .scale
  watchdog := 0
  q := 0
  estimated := false
  overload := false
  overloadCount := 0
  levelHigh := false
  levelCount := 0
  trampIn := false
  pullcordIn := false
  runFbIn := false
  sampleBase := .stopped

/-- The ALE after either reset (R59). -/
def Ale.reset : Ale where
  a := 0
  term := .hold
  u := 0
  residue := 0
  supply := false
  cap := 1000

/-- The RSC after either reset (R83). -/
def Rsc.reset : Rsc where
  runState := .offline
  subPhase := none
  hold := HoldSet.empty
  tripCause := none
  startTimer := .stopped
  spinTimer := .stopped
  interlockTimer := .stopped
  drainTimer := .stopped

/-- The MVE after either reset (R124, R125), its table and g_set blank until the hand-over. -/
def Mve.reset : Mve where
  table := List.replicate 32 MoveRecord.blank
  gSet := 0
  active := none
  stack := []
  parked := none
  requests := RequestSet.empty
  tokenHigh := .orderGap
  tokenLow := .start
  settleTimer := .stopped
  recordTimer := .stopped
  aleActed := false

/-- The CWU after a power-on reset (R153), its r0 at 1 until the hand-over (log entry 2). -/
def Cwu.reset : Cwu where
  r0 := 1
  r0Set := false
  attempts := 0
  loadCount := 0
  stillCount := 0
  reference := none
  calNumber := 0
  ring := []
  totalWear := 0
  seconds := 0
  secondsTimer := .stopped
  sinceCal := 0
  hours := 0
  minutes := 0
  due := true
  selection := 0

/-- The CFG at the release of a power-on reset (R195, R197, R200). -/
def Cfg.reset : Cfg where
  validity := .loading
  clock := .crystal
  crystalCount := 0
  image := Image.blank
  lastReset := .powerOn
  asserted := .released
  restartWatch := false
  crystalMissed := false

/-- The outputs of R196. -/
def Pins.reset : Pins where
  run := false
  raise := false
  lower := false
  feed := 0
  permit := false
  attn := true
  txEnable := false

/-- The part right after the release of a power-on reset, with no command waiting (R195). -/
def State.reset : State where
  lbi := Lbi.reset
  peers := []
  mfe := Mfe.reset
  ale := Ale.reset
  rsc := Rsc.reset
  mve := Mve.reset
  cwu := Cwu.reset
  echo := none
  evu := ⟨0#20⟩
  cfg := Cfg.reset
  pins := Pins.reset
  draws := 0
  pending := []

end Sys2Proof.Machine
end

