-- ==== Sys2Proof/Machine/Operands.lean ====
section
/-! DEFINITION. What operands mean: the codes of spec/12 section 12.1 in both directions, the conversion
of samples (R39, R40), and the arguments of orders. -/

namespace Sys2Proof.Machine

/-! ### Codes (spec/12, section 12.1) -/

/-- The role code. -/
def Role.code : Role → BitVec 2
  | .feeder => 1
  | .crusher => 2
  | .bin => 3

/-- The role that a code names, if any. -/
def Role.ofCode (c : Nat) : Option Role :=
  match c with
  | 1 => some .feeder
  | 2 => some .crusher
  | 3 => some .bin
  | _ => none

/-- The run state code. -/
def RunState.code : RunState → BitVec 3
  | .offline => 0
  | .ready => 1
  | .starting => 2
  | .running => 3
  | .holding => 4
  | .stopping => 5
  | .tripped => 6

/-- The run state that a code names, if any. -/
def RunState.ofCode (c : Nat) : Option RunState :=
  match c with
  | 0 => some .offline
  | 1 => some .ready
  | 2 => some .starting
  | 3 => some .running
  | 4 => some .holding
  | 5 => some .stopping
  | 6 => some .tripped
  | _ => none

/-- The trip cause code. -/
def TripCause.code : TripCause → Byte
  | .pullcord => 1
  | .noFeedback => 2
  | .motorStopped => 3
  | .duplicate => 4
  | .trampUncleared => 5
  | .chainFaultHigh => 6
  | .clock => 7
  | .selected => 8

/-- The limiting term code. -/
def LimitTerm.code : LimitTerm → Byte
  | .gap => 0
  | .power => 1
  | .level => 2
  | .cap => 3
  | .supply => 4
  | .space => 5
  | .downstream => 6
  | .terminal => 7
  | .move => 8
  | .hold => 9

/-- The hold set as the telegram carries it, TRAMP in bit 0. -/
def HoldSet.code (h : HoldSet) : BitVec 7 :=
  BitVec.ofBool h.ordered ++ BitVec.ofBool h.downstream ++ BitVec.ofBool h.moveFault ++
    BitVec.ofBool h.move ++ BitVec.ofBool h.levelHigh ++ BitVec.ofBool h.overload ++
    BitVec.ofBool h.tramp

/-- The requester code. -/
def Requester.code : Requester → BitVec 3
  | .tramp => 0
  | .overload => 1
  | .orderGap => 2
  | .calibrate => 3
  | .start => 4
  | .schedule => 5

/-- The code of a stack entry that is not there. -/
def noRequester : BitVec 3 := 7

/-- The pending requesters as the telegram carries them, TRAMP in bit 0. -/
def RequestSet.code (r : RequestSet) : BitVec 6 :=
  BitVec.ofBool r.schedule ++ BitVec.ofBool r.start ++ BitVec.ofBool r.calibrate ++
    BitVec.ofBool r.orderGap ++ BitVec.ofBool r.overload ++ BitVec.ofBool r.tramp

/-- The phase code. -/
def Phase.code : Phase → BitVec 3
  | .load => 0
  | .settle => 1
  | .drive _ => 2
  | .verify _ => 3
  | .done => 4
  | .running => 5

/-- The fault status code. -/
def FaultStatus.code : FaultStatus → BitVec 4
  | .invalid => 1
  | .loop => 2
  | .sensor => 3
  | .timeoutOpening => 4
  | .timeoutClosing => 5
  | .hunting => 6
  | .noContact => 7
  | .feedNotStopped => 8

/-- The code of a context's status; only a fault status has one. -/
def Status.code : Status → BitVec 4
  | .new => 0
  | .suspended => 0
  | .fault f => f.code

/-- The order result code. -/
def OrderResult.code : OrderResult → Byte
  | .accepted => 0
  | .clamped => 1
  | .refusedState => 2
  | .refusedRole => 3
  | .notPermitted => 4
  | .unknownKind => 5

/-- The record kind that a code names, if any. -/
def RecordKind.ofCode (c : Nat) : Option RecordKind :=
  match c with
  | 0 => some .gapTo
  | 1 => some .gapBy
  | 2 => some .touch
  | 3 => some .dwell
  | 4 => some .rateFor
  | _ => none

/-- The feed condition that a code names, if any. -/
def Feed.ofCode (c : Nat) : Option Feed :=
  match c with
  | 0 => some .none
  | 1 => some .reduce
  | 2 => some .stop
  | _ => Option.none

/-! ### Orders (chapter 9) -/

/-- An order of correct form: one of the fourteen kinds with its argument (R176). -/
inductive Order where
  | startLine
  | stopLine
  | hold
  | release
  | clearTrip
  | setGap (gap : Nat)
  | setCap (cap : Nat)
  | calibrate
  | moveRetry
  | moveDiscard
  | restoreScale
  | readCal (index : Nat)
  | linerChanged
  | ackEvents (kinds : BitVec 24)
  deriving DecidableEq, Repr

/-- The order kind code. -/
def Order.code : Order → Byte
  | .startLine => 1
  | .stopLine => 2
  | .hold => 3
  | .release => 4
  | .clearTrip => 5
  | .setGap _ => 6
  | .setCap _ => 7
  | .calibrate => 8
  | .moveRetry => 9
  | .moveDiscard => 10
  | .restoreScale => 11
  | .readCal _ => 12
  | .linerChanged => 13
  | .ackEvents _ => 14

/-- The number in bytes 9 and 10 of an ORDER telegram; byte 8 is not read (spec/12, section 12.3). -/
def argNumber (arg : BitVec 24) : Nat := (arg.extractLsb' 0 16).toNat

/-- The form check of R176: the order that a kind code and an argument make, or none. -/
def Order.ofWire (kind : Byte) (arg : Option (BitVec 24)) : Option Order :=
  match kind.toNat, arg with
  | 1, none => some .startLine
  | 2, none => some .stopLine
  | 3, none => some .hold
  | 4, none => some .release
  | 5, none => some .clearTrip
  | 6, some a => some (.setGap (argNumber a))
  | 7, some a => some (.setCap (argNumber a))
  | 8, none => some .calibrate
  | 9, none => some .moveRetry
  | 10, none => some .moveDiscard
  | 11, none => some .restoreScale
  | 12, some a => some (.readCal (argNumber a))
  | 13, none => some .linerChanged
  | 14, some a => some (.ackEvents a)
  | _, _ => none

/-! ### Samples (chapter 3) -/

/-- The motor load of a raw LOAD count (R39). -/
def loadOfCount (c : Nat) : Nat := satNat 1500 (c * 3 / 8)

/-- The level of a raw LEVEL count (R39). -/
def levelOfCount (c : Nat) : Nat := satNat 1000 (c / 4)

/-- A raw GAPPOS count that shows no wire fault (R41). -/
def rawValid (r : Nat) : Bool := decide (1 ≤ r) && decide (r ≤ 4094)

/-- The measured gap of a valid raw count against gap zero r0 (R40). -/
def gapOfRaw (r0 kp r : Nat) : Nat :=
  if r ≤ r0 then 0 else satNat 3000 ((r - r0) * kp / 256)

/-- The wear step of a contact, signed and truncated toward zero (R162). -/
def wearStep (r0 kp rc : Nat) : Int := Int.tdiv (((rc : Int) - (r0 : Int)) * (kp : Int)) 256

end Sys2Proof.Machine
end

