-- ==== Sys2Proof/Machine/Flags.lean ====
section
/-! DEFINITION. The flag-like state: event kinds and their masks, hold causes, requests, timers, and the
outputs as functions of the state. -/

namespace Sys2Proof.Machine

/-! ### Events (chapter 10) -/

/-- The bit of an event kind (spec/12, section 12.1). -/
def EventKind.bit : EventKind → Nat
  | .tramp => 0
  | .overload => 1
  | .levelHigh => 2
  | .scaleLost => 3
  | .gapSensor => 4
  | .moveFault => 5
  | .limit => 6
  | .startTimeout => 7
  | .interlockStop => 8
  | .trip => 9
  | .duplicateNumber => 10
  | .peerTableFull => 11
  | .busContention => 12
  | .busSilent => 13
  | .chainNotify => 14
  | .calibrated => 15
  | .calRejected => 16
  | .calSuspect => 17
  | .linerWorn => 18
  | .clockFail => 19

/-- The set that holds one kind. -/
def EventSet.single (k : EventKind) : EventSet := BitVec.twoPow 20 k.bit

/-- Membership of a kind. -/
def EventSet.has (e : EventSet) (k : EventKind) : Bool := e.getLsbD k.bit

/-- Add a kind (R185): a kind already present leaves the set as it was. -/
def EventSet.add (e : EventSet) (k : EventKind) : EventSet := e ||| EventSet.single k

/-- Remove the kinds of `gone` (R186). -/
def EventSet.remove (e gone : EventSet) : EventSet := e &&& ~~~gone

/-- The kinds that only these may trip a station by selection (R187). -/
def selectableKinds : EventSet :=
  EventSet.single .scaleLost ||| EventSet.single .gapSensor ||| EventSet.single .busSilent |||
    EventSet.single .overload ||| EventSet.single .levelHigh

/-! ### Run states -/

/-- RUNNING, HOLDING and STOPPING: the running group. -/
def RunState.inGroup : RunState → Bool
  | .running | .holding | .stopping => true
  | .offline | .ready | .starting | .tripped => false

/-- RUNNING and HOLDING, in which the CWU counts time (R168) and requests are raised. -/
def RunState.isTurning : RunState → Bool
  | .running | .holding => true
  | .offline | .ready | .starting | .stopping | .tripped => false

/-- The stopped class of R33. -/
def RunState.isStopped : RunState → Bool
  | .ready | .offline | .tripped | .stopping => true
  | .starting | .running | .holding => false

/-! ### Hold causes, requests, timers -/

/-- The hold set has no member. -/
def HoldSet.isEmpty (h : HoldSet) : Bool :=
  !(h.tramp || h.overload || h.levelHigh || h.move || h.moveFault || h.downstream || h.ordered)

/-- Membership of a requester. -/
def RequestSet.has (r : RequestSet) : Requester → Bool
  | .tramp => r.tramp
  | .overload => r.overload
  | .orderGap => r.orderGap
  | .calibrate => r.calibrate
  | .start => r.start
  | .schedule => r.schedule

/-- Make a requester a member or not. -/
def RequestSet.put (r : RequestSet) (b : Bool) : Requester → RequestSet
  | .tramp => { r with tramp := b }
  | .overload => { r with overload := b }
  | .orderGap => { r with orderGap := b }
  | .calibrate => { r with calibrate := b }
  | .start => { r with start := b }
  | .schedule => { r with schedule := b }

/-- The set with no member. -/
def RequestSet.isEmpty (r : RequestSet) : Bool :=
  !(r.tramp || r.overload || r.orderGap || r.calibrate || r.start || r.schedule)

/-- The fixed priority of a requester (R111). -/
def Requester.priority : Requester → Nat
  | .tramp => 3
  | .overload => 2
  | .orderGap => 1
  | .calibrate => 1
  | .start => 0
  | .schedule => 0

/-- The timer runs. -/
def Timer.isRunning : Timer → Bool
  | .running _ => true
  | .stopped => false

/-- Start a timer; one that runs goes on from its earlier start (R83). -/
def Timer.start : Timer → Timer
  | .running e => .running e
  | .stopped => .running 0

/-- Start when `b` holds and stop otherwise (R96, R99). -/
def Timer.follow (b : Bool) (t : Timer) : Timer := if b then t.start else .stopped

/-! ### Contexts -/

/-- GAP_TO and GAP_BY: the gap records. -/
def RecordKind.isGap : RecordKind → Bool
  | .gapTo | .gapBy => true
  | .touch | .dwell | .rateFor => false

/-- The feed condition of a context's working copy: a TOUCH always has STOP (R118). -/
def Context.feed (c : Context) : Feed :=
  match c.record.kind with
  | .touch => .stop
  | .gapTo | .gapBy | .dwell | .rateFor => c.record.feed

/-- The feed condition that the ALE and the RSC read: that of the active record (R69). -/
def Mve.feed (m : Mve) : Feed :=
  match m.active with
  | none => .none
  | some c => c.feed

/-- A chain head from the image; ORDER_GAP has slot 0 and a clear mirror bit (R111). -/
def Image.head (i : Image) : Requester → Head
  | .tramp => i.headTramp
  | .overload => i.headOverload
  | .orderGap => ⟨0, false⟩
  | .calibrate => i.headCalibrate
  | .start => i.headStart
  | .schedule => i.headSchedule

/-- The requester has a chain (R111): ORDER_GAP always, another one when its head is not 0. -/
def Image.hasChain (i : Image) (r : Requester) : Bool :=
  match r with
  | .orderGap => true
  | .tramp | .overload | .calibrate | .start | .schedule => (i.head r).slot != 0

/-! ### Outputs -/

/-- The active context drives in this direction (R134). -/
def Mve.drives (m : Mve) (d : Direction) : Bool :=
  match m.active with
  | none => false
  | some c => c.phase == .drive d

/-- The RUN output (R85). -/
def Rsc.runOutput (r : Rsc) : Bool :=
  r.runState.inGroup || (r.runState == .starting && r.subPhase == some .spinUp)

/-- PERMIT is active exactly when the run state is neither OFFLINE nor TRIPPED (R192). -/
def Rsc.permitOutput (r : Rsc) : Bool := r.runState != .offline && r.runState != .tripped

/-- A reset, of either kind, is asserted (R195). -/
def Cfg.held (c : Cfg) : Bool := c.asserted != .released

/-- What ATTN shows with no kind of its mask pending outside OFFLINE: inactive (R188). Only at the station whose
reset arrived on the internal clock and did not find the crystal does R202 say active, against R188, and there it
is a free value (DESIGN CHOICE, log entry 33). -/
def Cfg.attnUnmasked (c : Cfg) : Bool := c.crystalMissed && Config.attnAfterRestart

/-- The ATTN output: active in OFFLINE and where a kind of the mask is pending (R188). -/
def State.attnOutput (s : State) : Bool :=
  s.rsc.runState == .offline || (s.evu.events &&& s.cfg.image.attnMask) != 0#20 || s.cfg.attnUnmasked

/-- The outputs as their blocks drive them; those of R196 in OFFLINE and while a reset is asserted. -/
def State.outputs (s : State) : Pins :=
  if s.cfg.held || s.rsc.runState == .offline then Pins.reset
  else
    { run := s.rsc.runOutput
      raise := s.mve.drives .raise
      lower := s.mve.drives .lower
      feed := s.ale.u
      permit := s.rsc.permitOutput
      attn := s.attnOutput
      txEnable := s.lbi.tx == .sending }

/-- Drive the outputs from the state. -/
def State.drive (s : State) : State := { s with pins := s.outputs }

end Sys2Proof.Machine
end

