-- ==== Sys2Proof/Machine/Ops.lean ====
section
/-! DEFINITION. The shared operations: raising an event, beginning and stopping telegrams, a change of the
run state with what every block does on it, a change of the hold set, and a trip. -/

namespace Sys2Proof.Machine

/-! ### Free values -/

/-- Note that a free value has been used, so that the next one is another. -/
def State.drawn (s : State) : State := { s with draws := s.draws + 1 }

/-! ### Events -/

/-- Raise an event: its kind enters the pending event set (R185). -/
def State.raise (s : State) (k : EventKind) : State :=
  { s with evu := { s.evu with events := s.evu.events.add k } }

/-! ### The sending side of the LBI (R7 to R13) -/

/-- The sending side runs: not in OFFLINE, not on the internal clock, not inhibited (R7, R13). -/
def State.sends (s : State) : Bool :=
  s.rsc.runState != .offline && s.cfg.clock == .crystal && !s.lbi.inhibit

/-- The receiving side runs: not in OFFLINE and not on the internal clock (R14). -/
def State.receives (s : State) : Bool :=
  s.rsc.runState != .offline && s.cfg.clock == .crystal

/-- Begin an early telegram with a fresh period: attempt count 0, WAIT_IDLE, timer restarted (R12). -/
def Lbi.beginEarly (l : Lbi) : Lbi :=
  { l with tx := .waitIdle, attempts := 0, periodTimer := .running 0 }

/-- A cause of an early telegram: a change of run state or hold set, or a trip cause set (R12). -/
def State.early (s : State) : State :=
  if s.sends then
    match s.lbi.tx with
    | .idle => { s with lbi := s.lbi.beginEarly }
    | .waitIdle => { s with lbi := { s.lbi with periodTimer := .running 0 } }
    | .sending | .backoff => { s with lbi := { s.lbi with earlyPending := true } }
  else s

/-- Stop the sending side: any telegram is cut off or dropped (R13). -/
def Lbi.stopSending (l : Lbi) : Lbi :=
  { l with tx := .idle, attempts := 0, earlyPending := false, contents := none }

/-- Drop any partial telegram and hunt (R14). -/
def Lbi.hunt (l : Lbi) : Lbi := { l with rx := .hunt, rxBytes := [], rxDriven := false }

/-- The sending side has entered IDLE after an attempt: a set pending flag begins the follow-up
telegram (R12). -/
def Lbi.followUp (l : Lbi) : Lbi :=
  if l.earlyPending then { l with earlyPending := false }.beginEarly
  else { l with tx := .idle, attempts := 0 }

/-! ### The allowance engine -/

/-- Zeroing (R61). -/
def Ale.zero (x : Ale) : Ale :=
  { x with a := 0, term := .hold, u := 0, residue := 0, supply := false }

/-! ### Leaving the running group -/

/-- Reset the contact counts (R160). -/
def Cwu.clearContact (c : Cwu) : Cwu :=
  { c with loadCount := 0, stillCount := 0, reference := none }

/-- Discard active and stacked contexts and every request but ORDER_GAP, and stop the timers; the
fault slot is kept (R150). -/
def Mve.discard (m : Mve) : Mve :=
  { m with
    active := none
    stack := []
    requests := { RequestSet.empty with orderGap := m.requests.orderGap }
    settleTimer := .stopped
    recordTimer := .stopped }

/-- Abort: discard, and empty the fault slot (R151). -/
def Mve.abort (m : Mve) : Mve := { m.discard with parked := none }

/-- What the MVE does when the run state changes (R150, R151). -/
def Mve.onRunState (m : Mve) (old new : RunState) : Mve :=
  if new == .tripped then m.abort
  else if old.inGroup && !new.inGroup then m.discard
  else m

/-- What the CWU does when the run state changes: the contact counts of a discarded TOUCH and the
tramp attempt count clear on leaving the running group (R158, R160), and the seconds timer of a
CRUSHER follows RUNNING and HOLDING (R168). -/
def Cwu.onRunState (c : Cwu) (role : Role) (old new : RunState) : Cwu :=
  let c1 := if old.inGroup && !new.inGroup then { c.clearContact with attempts := 0 } else c
  if role == .crusher then
    { c1 with secondsTimer := if new.isTurning then c1.secondsTimer.start else .stopped }
  else c1

/-- What the ALE does when the run state changes: it zeroes when RUNNING is left, and when HOLDING is
left for another state than RUNNING (R61). -/
def Ale.onRunState (x : Ale) (old new : RunState) : Ale :=
  if (old == .running && new != .running) || (old == .holding && new != .holding && new != .running)
  then x.zero else x

/-- What the RSC itself does when the run state changes: the hold set clears on leaving the running
group (R91), and the interlock and drain timers stop with it (R96, R99). -/
def Rsc.onRunState (r : Rsc) (new : RunState) : Rsc :=
  if r.runState.inGroup && !new.inGroup then
    { r with runState := new, hold := HoldSet.empty, interlockTimer := .stopped, drainTimer := .stopped }
  else { r with runState := new }

/-- What the LBI does before the early telegram: the transmit-inhibit flag clears when the run state
leaves TRIPPED (R13). -/
def Lbi.onRunState (l : Lbi) (old new : RunState) : Lbi :=
  if old == .tripped && new != .tripped then { l with inhibit := false } else l

/-- A change of the run state, with what every block does on it, and the early telegram (R12). -/
def State.changeRun (s : State) (new : RunState) : State :=
  if s.rsc.runState == new then s
  else
    let old := s.rsc.runState
    State.early
      { s with
        lbi := s.lbi.onRunState old new
        ale := s.ale.onRunState old new
        rsc := s.rsc.onRunState new
        mve := s.mve.onRunState old new
        cwu := s.cwu.onRunState s.cfg.image.role old new }

/-! ### The hold set -/

/-- The run state that a hold set gives (R92). -/
def RunState.withHold (r : RunState) (h : HoldSet) : RunState :=
  match r with
  | .running => if h.isEmpty then .running else .holding
  | .holding => if h.isEmpty then .running else .holding
  | .offline => .offline
  | .ready => .ready
  | .starting => .starting
  | .stopping => .stopping
  | .tripped => .tripped

/-- Change the hold set in the running group (R91, R92): the ALE zeroes when it becomes non-empty
(R61), RUNNING and HOLDING follow it, and an early telegram reports it (R12). A set that stays as it
was is no change. -/
def State.setHold (s : State) (h : HoldSet) : State :=
  if s.rsc.hold == h || !s.rsc.runState.inGroup then s
  else
    let ale := if s.rsc.hold.isEmpty && !h.isEmpty then s.ale.zero else s.ale
    let s1 := { s with ale := ale, rsc := { s.rsc with hold := h } }
    State.early (s1.changeRun (s1.rsc.runState.withHold h))

/-- Bring the causes of the MVE and the CWU to what their owners' state says: MOVE while the active
record has STOP (R136), MOVE_FAULT while the fault slot is occupied (R146), TRAMP while a clearing is in
progress (section 8.2). Taken at the end of each operation, so that only its net change shows (log
entry 29). -/
def State.syncHold (s : State) : State :=
  s.setHold
    { s.rsc.hold with
      move := s.mve.feed == .stop
      moveFault := s.mve.parked.isSome
      tramp := s.cwu.attempts != 0 }

/-! ### Trips -/

/-- A trip is handed to the RSC (R102, R103): not taken in OFFLINE (R84) and without effect in
TRIPPED. -/
def State.trip (s : State) (cause : TripCause) : State :=
  match s.rsc.runState with
  | .offline | .tripped => s
  | .ready | .starting | .running | .holding | .stopping =>
    let s1 := s.changeRun .tripped
    State.raise
      { s1 with
        rsc :=
          { s1.rsc with
            tripCause := some cause
            subPhase := none
            hold := HoldSet.empty
            startTimer := .stopped
            spinTimer := .stopped
            interlockTimer := .stopped
            drainTimer := .stopped } }
      .trip

/-- A kind that was raised hands the RSC a trip with cause SELECTED when the trip-select mask holds it and
the run state is in the running group (R189). -/
def State.tripIfSelected (s : State) (k : EventKind) : State :=
  if s.cfg.image.tripMask.has k && s.rsc.runState.inGroup then s.trip .selected else s

/-! ### Commands -/

/-- The form of every meaning but those of the resets: while a reset is asserted the part takes no event
(R195); otherwise the effect, and then the outputs follow. -/
def State.event (s : State) (effect : State → State) : Host.Outcome State Fault Refusal :=
  if s.cfg.held then .next s else .next (effect s).drive

end Sys2Proof.Machine
end

