-- ==== Sys2Proof/Machine/Calibration.lean ====
section
/-! DEFINITION. The calibration and wear unit: the evaluation of a contact, the wear ring, the report
selection, running time, and what the end of a tramp chain does (chapter 8). -/

namespace Sys2Proof.Machine

/-! ### The wear ring (R165, R166) -/

/-- The most records the ring holds (R165). -/
def ringLimit : Nat := 8

/-- The ring with a record appended as the newest; from a full ring the oldest goes (R165). -/
def appendRecord (ring : List CalRecord) (r : CalRecord) : List CalRecord :=
  (if ring.length < ringLimit then ring else ring.drop (ring.length + 1 - ringLimit)) ++ [r]

/-- The ring holds at least three records and the three newest are all rejected (R166). -/
def ringSuspect (ring : List CalRecord) : Bool :=
  decide (3 ≤ ring.length) && (ring.reverse.take 3).all fun r => !r.accepted

/-- SCHEDULE is suspended (R166): it follows from the ring. -/
def Cwu.suspended (c : Cwu) : Bool := ringSuspect c.ring

/-- The calibration number after `n` (R162, step 1). -/
def nextNumber (n : Nat) : Nat := if n = 65535 then 1 else n + 1

/-- Total wear saturates at either end (R153). -/
def addWear (total w : Int) : Int := clampInt (-30000) 30000 (total + w)

/-! ### A contact (R162 to R164) -/

/-- After a change of r0 the MFE converts the latest raw position again, when it is valid and the flag
is set (R42). No sample notice is given. -/
def State.reconvertGap (s : State) : State :=
  if rawValid s.mfe.raw && s.mfe.gapValid then
    { s with mfe := { s.mfe with gap := gapOfRaw s.cwu.r0 s.cfg.image.kp s.mfe.raw } }
  else s

/-- Set gap zero (R163, step 1). -/
def State.setZero (s : State) (r0 : Nat) : State :=
  State.reconvertGap { s with cwu := { s.cwu with r0 := r0 } }

/-- An accepted calibration with wear step `w`; a reference calibration leaves total wear and raises no
LINER_WORN (R163). -/
def State.acceptContact (s : State) (rc : Nat) (w : Int) (reference : Bool) : State :=
  let s1 := s.setZero rc
  let total := if reference then s1.cwu.totalWear else addWear s1.cwu.totalWear w
  let s2 := { s1 with cwu := { s1.cwu with totalWear := total, due := false, sinceCal := 0 } }
  let s3 := s2.raise .calibrated
  if !reference && decide ((s.cfg.image.wMax : Int) ≤ total) then s3.raise .linerWorn else s3

/-- Append the record of a calibration; the report selection returns to 0 (R165, R167). -/
def State.appendCal (s : State) (r : CalRecord) : State :=
  { s with cwu := { s.cwu with ring := appendRecord s.cwu.ring r, selection := 0 } }

/-- The conditions under which the CWU raises SCHEDULE besides its cause: the head is not 0 and
SCHEDULE is not suspended (R166, R169). -/
def State.scheduleAllowed (s : State) : Bool :=
  s.cfg.image.hasChain .schedule && !s.cwu.suspended

/-- After the append of a rejected record: CAL_SUSPECT (R166), and the SCHEDULE request again (R164).
The TOUCH that made the contact is still the active record, so the request only becomes pending
(R138). -/
def State.afterRejection (s : State) : State :=
  let s1 := if s.cwu.suspended then s.raise .calSuspect else s
  if s1.cwu.due && s1.rsc.runState.isTurning && s1.scheduleAllowed then
    { s1 with mve := { s1.mve with requests := s1.mve.requests.put true .schedule } }
  else s1

/-- The calibration evaluation of a contact at the latest raw position (R162). -/
def State.evaluateContact (s : State) : State :=
  let rc := s.mfe.raw
  let w := wearStep s.cwu.r0 s.cfg.image.kp rc
  let number := nextNumber s.cwu.calNumber
  let reference := s.cwu.ring.isEmpty
  let accepted := reference || decide (w.natAbs ≤ s.cfg.image.wJump)
  let record : CalRecord :=
    { number := number, contact := rc, wear := w, hours := s.cwu.hours, accepted := accepted }
  let s1 := { s with cwu := { s.cwu with calNumber := number } }
  if accepted then (s1.acceptContact rc w reference).appendCal record
  else ((s1.raise .calRejected).appendCal record).afterRejection

/-! ### Contact detection (R160) -/

/-- A LOAD sample in DRIVE of a TOUCH. -/
def Cwu.countLoad (c : Cwu) (pTouch load : Nat) : Cwu :=
  { c with loadCount := if pTouch ≤ load then c.loadCount + 1 else 0 }

/-- A valid GAPPOS sample in DRIVE of a TOUCH. -/
def Cwu.countStill (c : Cwu) (raw : Nat) : Cwu :=
  if c.reference = some raw then { c with stillCount := c.stillCount + 1 }
  else { c with reference := some raw, stillCount := 0 }

/-- Contact is made: load count 2 or still count 3. -/
def Cwu.contactMade (c : Cwu) : Bool := decide (2 ≤ c.loadCount) || decide (3 ≤ c.stillCount)

/-! ### The end of a tramp chain (R157) -/

/-- What the CWU does when a chain of the TRAMP requester has completed its stop record, before the
selection that follows (R157). With no clearing in progress there is nothing to do. -/
def State.trampEnd (s : State) : State :=
  if s.cwu.attempts = 0 then s
  else if s.mfe.trampIn then
    if s.cwu.attempts < 3 then
      { s with
        cwu := { s.cwu with attempts := s.cwu.attempts + 1 }
        mve := { s.mve with requests := s.mve.requests.put true .tramp } }
    else s.trip .trampUncleared
  else if s.mve.requests.tramp then s
  else { s with cwu := { s.cwu with attempts := 0 } }

/-! ### Orders and time (R167, R168, R170) -/

/-- The report selection that a READ_CAL index gives, and whether it was clamped (R167, R182). -/
def Cwu.select (c : Cwu) (index : Nat) : Cwu × Bool :=
  if c.ring.isEmpty then ({ c with selection := 0 }, index != 0)
  else if index < c.ring.length then ({ c with selection := index }, false)
  else ({ c with selection := c.ring.length - 1 }, true)

/-- A LINER_CHANGED order (R170). -/
def Cwu.newLiner (c : Cwu) : Cwu :=
  { c with ring := [], selection := 0, totalWear := 0, hours := 0, minutes := 0, due := true }

/-- A minute tick (R168). -/
def Cwu.minuteTick (c : Cwu) : Cwu :=
  let c1 := { c with sinceCal := satNat 65535 (c.sinceCal + 1) }
  if c.minutes + 1 = 60 then { c1 with minutes := 0, hours := satNat 65535 (c.hours + 1) }
  else { c1 with minutes := c.minutes + 1 }

end Sys2Proof.Machine
end

