-- ==== Sys2Proof/Machine/Peers.lean ====
section
/-! DEFINITION. The peer table and the line neighbourhood (chapter 2). -/

namespace Sys2Proof.Machine

/-- The most entries the table holds (R20). -/
def peerLimit : Nat := 16

/-- The age at which an entry is removed (R26). -/
def forgetAge : Nat := 64

/-- The entry is fresh (R22). -/
def PeerEntry.fresh (lF : Nat) (e : PeerEntry) : Bool := decide (e.age ≤ lF)

/-- Branch compatibility (R30). -/
def branchCompatible (b e : Nat) : Bool := b == 0 || e == 0 || b == e

/-- The downstream set D, in ascending order of station number (R31). -/
def State.downstream (s : State) : List PeerEntry :=
  s.peers.filter fun e =>
    e.fresh s.cfg.image.lF && e.position == s.cfg.image.position + 1 &&
      branchCompatible s.cfg.image.branch e.branch

/-- The upstream set U, in ascending order of station number (R32). -/
def State.upstream (s : State) : List PeerEntry :=
  s.peers.filter fun e =>
    e.fresh s.cfg.image.lF && e.position + 1 == s.cfg.image.position &&
      branchCompatible s.cfg.image.branch e.branch

/-- A running member (R33). -/
def PeerEntry.isRunning (e : PeerEntry) : Bool := e.runState == .running

/-- An active member: RUNNING or HOLDING (R33). -/
def PeerEntry.isActive (e : PeerEntry) : Bool := e.runState.isTurning

/-- The supply bin of a FEEDER: the BIN of U with the lowest station number (R34). -/
def State.supplyBin (s : State) : Option PeerEntry :=
  if s.cfg.image.role == .feeder then s.upstream.find? fun e => e.role == .bin else none

/-! ### Writing (R23 to R25) -/

/-- Write an entry of a known number, or insert it at its place in ascending order (R23, R24). -/
def putPeer (e : PeerEntry) : List PeerEntry → List PeerEntry
  | [] => [e]
  | p :: ps =>
    if e.number < p.number then e :: p :: ps
    else if e.number = p.number then e :: ps
    else p :: putPeer e ps

/-- The table has an entry of this number. -/
def hasPeer (n : Nat) (ps : List PeerEntry) : Bool := ps.any fun p => p.number == n

/-- The greatest age in the table. -/
def greatestAge (ps : List PeerEntry) : Nat := ps.foldl (fun m p => max m p.age) 0

/-- Remove the first entry of this age: the one with the lowest station number (R25). -/
def dropFirstOfAge (age : Nat) : List PeerEntry → List PeerEntry
  | [] => []
  | p :: ps => if p.age = age then ps else p :: dropFirstOfAge age ps

/-- The table after a telegram, or none when the telegram is dropped from a full, fresh table (R23 to
R25). -/
def writePeer (lF : Nat) (e : PeerEntry) (ps : List PeerEntry) : Option (List PeerEntry) :=
  if hasPeer e.number ps || decide (ps.length < peerLimit) then some (putPeer e ps)
  else if lF < greatestAge ps then some (putPeer e (dropFirstOfAge (greatestAge ps) ps))
  else none

/-- Ageing at a period expiry (R22, R26). -/
def agePeers (ps : List PeerEntry) : List PeerEntry :=
  (ps.map fun p => { p with age := satNat 255 (p.age + 1) }).filter fun p => decide (p.age < forgetAge)

/-! ### The neighbour notice (R28) -/

/-- What a notice looks at in a member: run state, allowance, throughput, and the level of the supply
bin. -/
structure MemberView where
  number : Nat
  runState : RunState
  allowance : Nat
  throughput : Nat
  level : Option Nat
  deriving DecidableEq, Repr

/-- The numbers of the stations whose level a reader uses: the supply bin before a change of the table
from `s` to `t`, and the supply bin after it (R28, R34; DEDUCED, log entry 34). -/
def levelReadOf (s t : State) : List Nat :=
  (s.supplyBin.toList ++ t.supplyBin.toList).map PeerEntry.number

/-- A member as a notice looks at it; `bins` are the numbers of the members whose level counts (R28). -/
def PeerEntry.view (bins : List Nat) (e : PeerEntry) : MemberView where
  number := e.number
  runState := e.runState
  allowance := e.allowance
  throughput := e.throughput
  level := if e.number ∈ bins then e.level else none

/-- The change of the table from `s` to `t` altered D or U in a way of R28. Both tables are looked at with
the same members' levels, so a change of role alone alters nothing. -/
def neighboursChanged (s t : State) : Bool :=
  let view := PeerEntry.view (levelReadOf s t)
  s.downstream.map view != t.downstream.map view || s.upstream.map view != t.upstream.map view

end Sys2Proof.Machine
end

