-- ==== Sys2Proof/Machine/MoveEngine.lean ====
section
/-! DEFINITION. The move engine: loading, phases, completion and faults of records (chapters 6 and 7), and
the arbiter. Each operation that another block starts ends with `State.syncHold`. -/

namespace Sys2Proof.Machine

/-- A new state, and the fault with which a load or a drive decision ended, if any. -/
abbrev Loaded := State × Option FaultStatus

/-- Make a context the active one. -/
def State.setActive (s : State) (c : Context) : State := { s with mve := { s.mve with active := some c } }

/-- No chain is active. -/
def State.noActive (s : State) : State := { s with mve := { s.mve with active := none } }

/-- Stop the settle timer and the record timer, and drop the contact counts of a TOUCH (R143, R146, R160). -/
def State.stopMoveTimers (s : State) : State :=
  { s with
    mve := { s.mve with settleTimer := .stopped, recordTimer := .stopped }
    cwu := s.cwu.clearContact }

/-- The record of a slot. -/
def Mve.record (m : Mve) (slot : Nat) : MoveRecord := m.table.getD slot MoveRecord.blank

/-! ### The load check and the working copy (R115 to R118) -/

/-- The kind suits the role, and a record that advances names a next slot (R115). -/
def loadCheck (role : Role) (r : MoveRecord) : Bool :=
  (match r.kind with
    | .gapTo | .gapBy | .touch => role == .crusher
    | .rateFor => role == .feeder
    | .dwell => true) &&
    (r.stop || r.next != 0)

/-- The working copy of a GAP_TO (R116). -/
def workGapTo (i : Image) (gSet : Nat) (valid : Bool) (gap : Nat) (r : MoveRecord) : Working :=
  let target :=
    match r.targetSource with
    | .absolute => clampNat i.gMin i.gMax r.argument.toNat
    | .standing => clampNat i.gMin i.gMax gSet
  .gap target (if valid && decide (target < gap) then .closing else .opening)

/-- The signed step of a GAP_BY (R117). -/
def signedStep (mirror : Bool) (argument : Int) : Int := if mirror then -argument else argument

/-- The working target of a GAP_BY and whether it was clipped (R117). -/
def workGapBy (i : Image) (gap : Nat) (mirror : Bool) (argument : Int) : Nat × Bool :=
  let sum := (gap : Int) + signedStep mirror argument
  if sum < (i.gMin : Int) then (i.gMin, true)
  else if (i.gMax : Int) < sum then (i.gMax, true)
  else (sum.toNat, false)

/-- The record sense of a GAP_BY (R117). -/
def senseGapBy (argument : Int) : Sense := if argument < 0 then .closing else .opening

/-! ### DRIVE, VERIFY and SETTLE -/

/-- What a drive decision chooses for a gap record (R130). -/
def decidePhase (db gap target : Nat) : Phase :=
  if gap + db < target then .drive .raise
  else if target + db < gap then .drive .lower
  else .verify 0

/-- The drive decision of the active context `c` (R130). `restart` says that it is the first one after a
load or a resumption, which starts the record timer. A TOUCH that enters DRIVE has its contact counts
reset (R160). -/
def State.driveDecision (s : State) (c : Context) (restart : Bool) : Loaded :=
  if s.mfe.gapValid then
    let timer := if restart then Timer.running 0 else s.mve.recordTimer
    let phase :=
      match c.work with
      | .gap target _ => decidePhase s.cfg.image.db s.mfe.gap target
      | .touch | .timed _ | .none => .drive .lower
    let cwu := if c.record.kind == .touch then s.cwu.clearContact else s.cwu
    ({ s with
        cwu := cwu
        mve := { s.mve with recordTimer := timer, active := some { c with phase := phase } } }, none)
  else (s, some .sensor)

/-- The settle test for feed condition STOP (R127). -/
def State.stopSettled (s : State) : Bool :=
  (s.upstream.all fun e => e.runState.isStopped || e.throughput == 0) &&
    decide (s.mfe.load ≤ s.cfg.image.pIdle)

/-- The settle test for feed condition REDUCE: not before the ALE has acted (R128). -/
def State.reduceSettled (s : State) : Bool := s.mve.aleActed && decide (s.mfe.q ≤ s.ale.a)

/-- SETTLE completes: the settle timer stops and the drive decision is taken (R127). -/
def State.settled (s : State) (c : Context) : Loaded :=
  State.driveDecision { s with mve := { s.mve with settleTimer := .stopped } } c true

/-- Enter SETTLE: the timer starts and the test is evaluated (R127, R128). -/
def State.enterSettle (s : State) (c : Context) : Loaded :=
  let c1 := { c with phase := .settle }
  let s1 :=
    { s with mve := { s.mve with active := some c1, settleTimer := .running 0, aleActed := false } }
  if c1.feed == .stop && s1.stopSettled then s1.settled c1 else (s1, none)

/-! ### Loading (R114) -/

/-- Step 4 of a load for a gap record or a TOUCH: the first phase (R126). The working copy of step 3 stands
in the context, so that a fault of the drive decision keeps it (R146). -/
def State.enterGap (s : State) (c : Context) : Loaded :=
  if c.feed == .none then (s.setActive c).driveDecision c true else s.enterSettle c

/-- The bit times of a remaining time in seconds (log entry 6). -/
def secondsTime (seconds : Nat) : Nat := seconds * Config.bitTimesPerSecond

/-- Load the record of the current slot of `c`, which becomes the active context (R114). -/
def State.loadActive (s : State) (c : Context) : Loaded :=
  let r := s.mve.record c.slot
  let c1 : Context :=
    { c with record := r, work := .none, phase := .load, redrives := 0, status := .new }
  let s1 := s.setActive c1
  if !loadCheck s.cfg.image.role r then (s1, some .invalid)
  else
    match r.kind with
    | .gapTo =>
      s1.enterGap
        { c1 with work := workGapTo s.cfg.image s.mve.gSet s.mfe.gapValid s.mfe.gap r }
    | .gapBy =>
      if s.mfe.gapValid then
        let t := workGapBy s.cfg.image s.mfe.gap c.mirror r.argument
        (if t.2 then s1.raise .limit else s1).enterGap
          { c1 with work := .gap t.1 (senseGapBy r.argument) }
      else (s1, some .sensor)
    | .touch => s1.enterGap { c1 with work := .touch }
    | .dwell =>
      (s1.setActive { c1 with work := .timed (secondsTime r.argument.toNat), phase := .running },
        none)
    | .rateFor =>
      (s1.setActive { c1 with work := .timed (secondsTime r.timeout), phase := .running }, none)

/-! ### Granting and resuming (R141, R144) -/

/-- The level tokens after a grant (R141). -/
def Mve.flipToken (m : Mve) (r : Requester) : Mve :=
  match r with
  | .orderGap => { m with tokenHigh := .calibrate }
  | .calibrate => { m with tokenHigh := .orderGap }
  | .start => { m with tokenLow := .schedule }
  | .schedule => { m with tokenLow := .start }
  | .tramp | .overload => m

/-- The context of a new chain, before its head record is loaded (R113). -/
def newContext (r : Requester) (h : Head) : Context where
  requester := r
  mirror := h.mirror
  slot := h.slot
  executed := 0
  record := MoveRecord.blank
  work := .none
  phase := .load
  redrives := 0
  status := .new

/-- Grant a pending request: it leaves the pending set, the token flips, and the head record of a new
context is loaded (R141). -/
def State.grant (s : State) (r : Requester) : Loaded :=
  let m := { s.mve with requests := s.mve.requests.put false r }
  State.loadActive { s with mve := m.flipToken r } (newContext r (s.cfg.image.head r))

/-- Resume the context `c`, already taken from the stack (R144). -/
def State.resume (s : State) (c : Context) : Loaded :=
  let c1 := { c with status := .new }
  let s1 := s.setActive c1
  match c.record.kind with
  | .gapTo | .gapBy =>
    match c.phase with
    | .drive _ | .verify _ => s1.driveDecision c1 true
    | .settle | .load | .done | .running => s1.enterSettle c1
  | .touch => s1.enterSettle c1
  | .dwell | .rateFor => (s1, none)

/-! ### Faults (R146, R147) -/

/-- The active chain of priority 3 has faulted: the outputs go inactive, and the station trips (R147). -/
def State.faultHigh (s : State) : State := (s.stopMoveTimers.noActive).trip .chainFaultHigh

/-- Steps 1 to 4 of a fault below priority 3: the active context goes to the fault slot (R146). -/
def State.park (s : State) (c : Context) (f : FaultStatus) : State :=
  let s1 := s.stopMoveTimers
  State.raise
    { s1 with mve := { s1.mve with active := none, parked := some { c with status := .fault f } } }
    .moveFault

/-- The selection while the fault slot is occupied: only a pending TRAMP takes part (R139). A fault of
its load trips the station. -/
def State.selectTramp (s : State) : State :=
  if s.rsc.runState.inGroup && s.mve.active.isNone && s.mve.requests.tramp then
    match s.grant .tramp with
    | (t, none) => t
    | (t, some _) => t.faultHigh
  else s

/-- The active record faults (R146, R147). -/
def State.fault (s : State) (f : FaultStatus) : State :=
  match s.mve.active with
  | none => s
  | some c => if c.requester.priority = 3 then s.faultHigh else (s.park c f).selectTramp

/-- Take the fault with which a load or a drive decision ended. -/
def Loaded.finish (l : Loaded) : State :=
  match l.2 with
  | none => l.1
  | some f => l.1.fault f

/-! ### The arbiter (R138 to R140) -/

/-- The pending request that would be granted among the requests alone (R139, points 1 and 3). -/
def Mve.bestRequest (m : Mve) : Option Requester :=
  let r := m.requests
  if r.tramp then some .tramp
  else if r.overload then some .overload
  else if r.orderGap && r.calibrate then
    match m.tokenHigh with
    | .orderGap => some .orderGap
    | .calibrate => some .calibrate
  else if r.orderGap then some .orderGap
  else if r.calibrate then some .calibrate
  else if r.start && r.schedule then
    match m.tokenLow with
    | .start => some .start
    | .schedule => some .schedule
  else if r.start then some .start
  else if r.schedule then some .schedule
  else none

/-- Take the top context from the stack and resume it. -/
def State.resumeTop (s : State) (c : Context) : Loaded :=
  State.resume { s with mve := { s.mve with stack := s.mve.stack.dropLast } } c

/-- A selection among the pending requests and the stack top, with no fault parked (R139). -/
def State.selectFree (s : State) : State :=
  match s.mve.stack.getLast?, s.mve.bestRequest with
  | none, none => s
  | some c, none => (s.resumeTop c).finish
  | none, some r => (s.grant r).finish
  | some c, some r =>
    if c.requester.priority < r.priority then (s.grant r).finish else (s.resumeTop c).finish

/-- A selection (R139): only in the running group, and only while no chain is active (R138). -/
def State.select (s : State) : State :=
  if s.rsc.runState.inGroup && s.mve.active.isNone then
    if s.mve.parked.isSome then s.selectTramp else s.selectFree
  else s

/-- A context as it is saved on the stack: the sample count of VERIFY is not kept (R143). -/
def Context.suspend (c : Context) : Context :=
  { c with
    status := .suspended
    phase :=
      match c.phase with
      | .verify _ => .verify 0
      | .load => .load
      | .settle => .settle
      | .drive d => .drive d
      | .done => .done
      | .running => .running }

/-- Pre-empt the active context `c` by the pending request `r` (R140). -/
def State.preempt (s : State) (c : Context) (r : Requester) : State :=
  let s1 := s.stopMoveTimers
  (State.grant
    { s1 with mve := { s1.mve with active := none, stack := s1.mve.stack ++ [c.suspend] } } r).finish

/-- A grant point with the request `r` just added (R138, points 1 and 2). -/
def State.grantPoint (s : State) (r : Requester) : State :=
  match s.mve.active with
  | none => s.select
  | some c => if c.requester.priority < r.priority then s.preempt c r else s

/-- Add a request to the pending set without a grant point. -/
def State.putRequest (s : State) (r : Requester) : State :=
  { s with mve := { s.mve with requests := s.mve.requests.put true r } }

/-- A request reaches the MVE (R137): stored only in the running group, absorbed (or replaced) when it
is already pending. -/
def State.request (s : State) (r : Requester) : State :=
  if s.rsc.runState.inGroup && !s.mve.requests.has r then
    ((s.putRequest r).grantPoint r).syncHold
  else s

/-- A request of a requester that has a chain; one with head 0 is not raised (R111, R137). -/
def State.requestChain (s : State) (r : Requester) : State :=
  if s.cfg.image.hasChain r then s.request r else s

/-! ### Completion (R119 to R122) -/

/-- The stored record after update mode (R120). -/
def MoveRecord.advance (i : Image) (r : MoveRecord) : MoveRecord :=
  if r.update then
    let sum := r.argument + r.step
    if sum < (i.gMin : Int) then { r with argument := (i.gMin : Int), update := false }
    else if (i.gMax : Int) < sum then { r with argument := (i.gMax : Int), update := false }
    else { r with argument := sum }
  else r

/-- Step 1 of a completion (R119, R120). -/
def State.updateSlot (s : State) (c : Context) : State :=
  if c.record.kind == .gapTo then
    { s with
      mve :=
        { s.mve with table := s.mve.table.set c.slot ((s.mve.record c.slot).advance s.cfg.image) } }
  else s

/-- Step 2 of a completion (R121). -/
def State.notifyChain (s : State) (c : Context) : State :=
  if c.record.notify || c.record.stop then s.raise .chainNotify else s

/-- The most records a chain completes (R122). -/
def loopLimit : Nat := 64

/-- The chain of `c` ends (R145); the end of a tramp chain goes to the CWU before the selection (R157). -/
def State.endChain (s : State) (c : Context) : State :=
  let s1 := s.noActive
  (if c.requester == .tramp then s1.trampEnd else s1).select

/-- The record of the active context `c` completes (R119). -/
def State.complete (s : State) (c : Context) : State :=
  let s1 := ((s.stopMoveTimers).updateSlot c).notifyChain c
  let c1 := { c with executed := c.executed + 1 }
  if c.record.stop then s1.endChain c1
  else
    let c2 := { c1 with slot := c.record.next }
    if loopLimit ≤ c1.executed then (s1.setActive { c2 with phase := .load }).fault .loop
    else (s1.loadActive c2).finish

/-! ### Events at the active record -/

/-- The REDUCE settle test, evaluated when Q or A has changed and after a period action (R128). -/
def State.reduceTest (s : State) : State :=
  match s.mve.active with
  | none => s
  | some c =>
    if c.phase == .settle && c.feed == .reduce && s.reduceSettled then
      ((s.settled c).finish).syncHold
    else s

/-- The STOP settle test, evaluated on a neighbour notice and on a LOAD sample notice (R127). -/
def State.stopTest (s : State) : State :=
  match s.mve.active with
  | none => s
  | some c =>
    if c.phase == .settle && c.feed == .stop && s.stopSettled then ((s.settled c).finish).syncHold
    else s

/-- A change of the hold set by another block: the MVE evaluates the REDUCE settle test when A changed
(R128). -/
def State.changeHold (s : State) (h : HoldSet) : State :=
  let t := s.setHold h
  if t.ale.a = s.ale.a then t else t.reduceTest

/-- Contact ends the TOUCH of the active context `c` (R161). The sample that made it is not acted on in the record
that the completion loads (DESIGN CHOICE, log entry 32). -/
def State.contact (s : State) (c : Context) : State :=
  (s.stopMoveTimers.evaluateContact).complete { c with phase := .done }

/-- A GAPPOS sample in DRIVE of a gap record (R131). -/
def State.driveSample (s : State) (c : Context) (d : Direction) (target : Nat) : State :=
  if !s.mfe.gapValid then s.fault .sensor
  else
    let ends :=
      match d with
      | .raise => decide (target ≤ s.mfe.gap + s.cfg.image.db)
      | .lower => decide (s.mfe.gap ≤ target + s.cfg.image.db)
    if ends then s.setActive { c with phase := .verify 0 } else s

/-- A GAPPOS sample in VERIFY of a gap record (R132). -/
def State.verifySample (s : State) (c : Context) (n target : Nat) : State :=
  if !s.mfe.gapValid then s.fault .sensor
  else if decide (target ≤ s.mfe.gap + s.cfg.image.db) &&
      decide (s.mfe.gap ≤ target + s.cfg.image.db) then
    if n + 1 < 2 then s.setActive { c with phase := .verify (n + 1) }
    else s.complete { c with phase := .done }
  else if c.redrives < 2 then (s.driveDecision { c with redrives := c.redrives + 1 } false).finish
  else s.fault .hunting

/-- A GAPPOS sample in DRIVE of a TOUCH: SENSOR, or contact detection (R131, R160). -/
def State.touchSample (s : State) (c : Context) : State :=
  if !s.mfe.gapValid then s.fault .sensor
  else
    let s1 := { s with cwu := s.cwu.countStill s.mfe.raw }
    if s1.cwu.contactMade then s1.contact c else s1

/-- The GAPPOS sample notice at the MVE and the CWU (R42, R131, R132, R160). The CWU counts only at a TOUCH
that is in DRIVE before the MVE acts on the sample, and the MVE does not act on the sample again in a record that
the sample itself loads, by contact or by a completion (DESIGN CHOICE, log entry 32). -/
def State.gapNotice (s : State) : State :=
  match s.mve.active with
  | none => s
  | some c =>
    match c.work, c.phase with
    | .gap target _, .drive d => (s.driveSample c d target).syncHold
    | .gap target _, .verify n => (s.verifySample c n target).syncHold
    | .touch, .drive _ => (s.touchSample c).syncHold
    | _, _ => s

/-- The LOAD sample notice at the MVE and the CWU: the STOP settle test and contact detection (R39,
R127, R160). A sample whose settle test puts a TOUCH into DRIVE is not counted toward its contact (DESIGN
CHOICE, log entry 32). -/
def State.loadNotice (s : State) : State :=
  match s.mve.active with
  | none => s
  | some c =>
    match c.work, c.phase with
    | .touch, .drive _ =>
      let s1 := { s with cwu := s.cwu.countLoad s.cfg.image.pTouch s.mfe.load }
      if s1.cwu.contactMade then (s1.contact c).syncHold else s1
    | _, _ => s.stopTest

/-- The settle timer expires in SETTLE (R129). -/
def State.settleExpired (s : State) : State :=
  match s.mve.active with
  | none => s
  | some c => if c.phase == .settle then (s.fault .feedNotStopped).syncHold else s

/-- The status with which a record timer expiry faults the record of `c` (R133). -/
def Context.timeoutStatus (c : Context) : FaultStatus :=
  match c.work with
  | .gap _ .opening => .timeoutOpening
  | .gap _ .closing => .timeoutClosing
  | .touch | .timed _ | .none => .noContact

/-- The record timer expires in DRIVE or VERIFY (R133). -/
def State.recordExpired (s : State) : State :=
  match s.mve.active with
  | none => s
  | some c =>
    match c.phase with
    | .drive _ | .verify _ => (s.fault c.timeoutStatus).syncHold
    | .load | .settle | .done | .running => s

/-- The remaining time of a DWELL or RATE_FOR reaches 0 (R135). -/
def State.remainingExpired (s : State) : State :=
  match s.mve.active with
  | none => s
  | some c => if c.phase == .running then (s.complete c).syncHold else s

/-! ### Orders (R148, R149) -/

/-- A MOVE_RETRY is taken: in the running group, the slot occupied and no chain active (R148). -/
def State.retryTaken (s : State) : Bool :=
  s.rsc.runState.inGroup && s.mve.parked.isSome && s.mve.active.isNone

/-- After a reload that did not fault, the highest pending request above the retried context pre-empts
it (R148, step 4). -/
def State.retryPreempt (s : State) : State :=
  match s.mve.active, s.mve.bestRequest with
  | some c, some r => if c.requester.priority < r.priority then s.preempt c r else s
  | _, _ => s

/-- MOVE_RETRY taken with the context `c` parked (R148). -/
def State.retry (s : State) (c : Context) : State :=
  let s1 := { s with mve := { s.mve with parked := none } }
  let l := s1.loadActive { c with executed := 0 }
  match l.2 with
  | none => (l.1.retryPreempt).syncHold
  | some f => (l.1.fault f).syncHold

/-- MOVE_DISCARD with the fault slot occupied (R149). -/
def State.discardFault (s : State) : State :=
  (State.select { s with mve := { s.mve with parked := none } }).syncHold

end Sys2Proof.Machine
end

