-- ==== Sys2Proof/Machine/Clock.lean ====
section
/-! DEFINITION. The part's own clock: one bit time passes when no command waits, and the expiries that fall
due are queued (log entries 6 and 7). -/

namespace Sys2Proof.Machine

/-- One bit time more on a running timer. -/
def Timer.tick : Timer → Timer
  | .running e => .running (e + 1)
  | .stopped => .stopped

/-- A running timer has reached its limit. -/
def Timer.reached (t : Timer) (limit : Nat) : Bool :=
  match t with
  | .running e => decide (limit ≤ e)
  | .stopped => false

/-- The period in bit times: T_b and the offset of the station number (R6). -/
def Image.period (i : Image) : Nat := (i.tB + i.number % 8 * 2) * Config.bitTimesPerMs

/-- The sample interval in bit times (R38). -/
def sampleInterval : Nat := Config.sampleIntervalMs * Config.bitTimesPerMs

/-- The sample time base: it starts again at each interval (R38). -/
def Timer.tickBase (t : Timer) : Timer :=
  match t with
  | .running e => if sampleInterval ≤ e + 1 then .running 0 else .running (e + 1)
  | .stopped => .stopped

/-- The time since the last accepted scale pulse: it need not be known beyond the gap (R43). -/
def Timer.tickPulse : Timer → Timer
  | .running e => if Config.pulseGap ≤ e + 1 then .stopped else .running (e + 1)
  | .stopped => .stopped

/-- The backoff in bit times (R11). -/
def Image.backoff (i : Image) : Nat := Config.idleGap + i.number * Config.backoffStep

/-- One bit time less of the remaining time of an active DWELL or RATE_FOR (R135). -/
def Context.tick (c : Context) : Context :=
  match c.work with
  | .timed n => { c with work := .timed (n - 1) }
  | .none | .gap _ _ | .touch => c

/-- The remaining time of an active DWELL or RATE_FOR has reached 0 (R135). -/
def Mve.timeOut (m : Mve) : Bool :=
  match m.active with
  | none => false
  | some c => c.work == .timed 0

/-- The medium is driven by the station itself (R1). -/
def Lbi.idleTick (l : Lbi) : Nat :=
  if l.tx == .sending then 0 else satNat Config.longestBackoff (l.idleTime + 1)

/-- Every running timer goes on by one bit time. -/
def State.advance (s : State) : State :=
  { s with
    lbi := { s.lbi with periodTimer := s.lbi.periodTimer.tick, idleTime := s.lbi.idleTick }
    mfe :=
      { s.mfe with
        sampleBase := s.mfe.sampleBase.tickBase
        pulseTimer := s.mfe.pulseTimer.tickPulse }
    rsc :=
      { s.rsc with
        startTimer := s.rsc.startTimer.tick
        spinTimer := s.rsc.spinTimer.tick
        interlockTimer := s.rsc.interlockTimer.tick
        drainTimer := s.rsc.drainTimer.tick }
    mve :=
      { s.mve with
        settleTimer := s.mve.settleTimer.tick
        recordTimer := s.mve.recordTimer.tick
        active := s.mve.active.map Context.tick }
    cwu := { s.cwu with secondsTimer := s.cwu.secondsTimer.tick } }

/-- The timeout of the active record in seconds (R130). -/
def Mve.timeout (m : Mve) : Nat :=
  match m.active with
  | none => 0
  | some c => c.record.timeout

/-- A command, when it is due. -/
def dueIf (b : Bool) (c : Instr) : List Instr := if b then [c] else []

/-- The expiries of the timers that are due (R6, R83, R125, R135, R168). -/
def State.dueTimers (s : State) : List Instr :=
  dueIf (s.lbi.periodTimer.reached s.cfg.image.period) .periodExpiry ++
    dueIf (s.rsc.startTimer.reached (secondsTime s.cfg.image.startLimit)) .startLimitExpiry ++
    dueIf (s.rsc.spinTimer.reached (secondsTime s.cfg.image.spinUpLimit)) .spinUpExpiry ++
    dueIf (s.rsc.interlockTimer.reached (secondsTime s.cfg.image.interlockLimit))
      .interlockExpiry ++
    dueIf (s.rsc.drainTimer.reached (secondsTime s.cfg.image.drainTime)) .drainExpiry ++
    dueIf (s.mve.settleTimer.reached (secondsTime s.cfg.image.settleLimit)) .settleTimerExpiry ++
    dueIf (s.mve.recordTimer.reached (secondsTime s.mve.timeout)) .recordTimerExpiry ++
    dueIf s.mve.timeOut .remainingTimeExpiry ++
    dueIf (s.cwu.secondsTimer.reached (secondsTime 1)) .secondsTimerExpiry

/-- What the idle time of the medium brings (R10, R11, R14). -/
def State.dueBus (s : State) : List Instr :=
  dueIf (s.lbi.idleTime == Config.idleGap) .idleGap ++
    dueIf (s.lbi.tx == .waitIdle && decide (Config.idleGap ≤ s.lbi.idleTime)) .attemptStart ++
    dueIf (s.lbi.tx == .backoff && decide (s.cfg.image.backoff ≤ s.lbi.idleTime)) .backoffEnd

/-- Queue what is due, in the free order of log entry 7; one alone needs no order. -/
def State.queueDue (s : State) (due : List Instr) : State :=
  match due with
  | [] => s
  | [c] => { s with pending := s.pending ++ [c] }
  | a :: b :: l =>
    { s.drawn with pending := s.pending ++ arrange (Config.dueOrder s.draws) (a :: b :: l) }

/-- A start bit has been seen: the medium is not idle, and the measurement starts again (R1). -/
def State.startBit (s : State) : State := { s with lbi := { s.lbi with idleTime := 0 } }

/-- Queue the timer expiries that are due and, when the idle time completes a measurement, what it brings; a
start bit that no command has reported yet, a free value, prevents that (R1; log entry 36). -/
def State.queueAll (s : State) : State :=
  if s.dueBus.isEmpty then s.queueDue s.dueTimers
  else if Config.startBitSeen s.draws then s.drawn.startBit.queueDue s.dueTimers
  else s.drawn.queueDue (s.dueTimers ++ s.dueBus)

/-- The bit time of a release is over: a crystal that was absent has failed again by now (R202, log
entry 33). -/
def Cfg.tick (c : Cfg) : Cfg := { c with restartWatch := false }

/-- One bit time with no command waiting. Nothing runs while a reset is asserted, and in OFFLINE only the crystal
watch (R195, R196, R202). -/
def State.tick (s : State) : State :=
  if s.cfg.held then s
  else if s.rsc.runState == .offline then { s with cfg := s.cfg.tick }
  else State.queueAll { s.advance with cfg := s.cfg.tick }

end Sys2Proof.Machine
end

