-- ==== Sys2Proof/Machine/Image.lean ====
section
/-! DEFINITION. The configuration image: its layout (spec/12, section 12.4), its checks (R107, R198, R203)
and the hand-over of a valid image (R106, R110, R199). -/

namespace Sys2Proof.Machine

/-- The version that the part accepts (spec/12, section 12.4). -/
def imageVersion : Nat := 3

/-- The image length for that version. -/
def imageLength : Nat := 346

/-- The byte at an offset; a memory that does not answer reads as ones (R197). -/
def imageByte (bytes : List Byte) (i : Nat) : Byte := bytes.getD i 255#8

/-- The word at an offset, high byte first. -/
def imageWord (bytes : List Byte) (i : Nat) : BitVec 16 := imageByte bytes i ++ imageByte bytes (i + 1)

/-- A two-byte unsigned field. -/
def imageNat (bytes : List Byte) (i : Nat) : Nat := (imageWord bytes i).toNat

/-- A two-byte signed field, two's complement. -/
def imageInt (bytes : List Byte) (i : Nat) : Int := (imageWord bytes i).toInt

/-- A three-byte event-kind set. -/
def imageSet (bytes : List Byte) (i : Nat) : BitVec 24 :=
  imageByte bytes i ++ imageByte bytes (i + 1) ++ imageByte bytes (i + 2)

/-- The sum of the first `n` words modulo 65536 (R198). -/
def imageSum (bytes : List Byte) : Nat → BitVec 16
  | 0 => 0#16
  | n + 1 => imageSum bytes n + imageWord bytes (2 * n)

/-- A number lies in a range. -/
def within (lo hi x : Nat) : Bool := decide (lo ≤ x) && decide (x ≤ hi)

/-! ### Move records -/

/-- The argument of a record lies in the range of its kind (R108). -/
def argumentOk (k : RecordKind) (a : Int) : Bool :=
  match k with
  | .gapTo => decide (0 ≤ a) && decide (a ≤ 3000)
  | .gapBy => decide (-3000 ≤ a) && decide (a ≤ 3000)
  | .touch => decide (0 ≤ a) && decide (a ≤ 3000)
  | .dwell => decide (1 ≤ a) && decide (a ≤ 600)
  | .rateFor => decide (0 ≤ a) && decide (a ≤ 1000)

/-- Every field of a record lies in its range (R107, R108). -/
def MoveRecord.inRange (r : MoveRecord) : Bool :=
  argumentOk r.kind r.argument && decide (-3000 ≤ r.step) && decide (r.step ≤ 3000) &&
    within 1 600 r.timeout && within 0 31 r.next

/-- The record of slot `n` as the image stores it, or none when a code or a field is outside its range
(R107, R203). -/
def imageRecord (bytes : List Byte) (n : Nat) : Option MoveRecord := do
  let o := 91 + 8 * (n - 1)
  let b0 := imageByte bytes o
  let b1 := imageByte bytes (o + 1)
  let kind ← RecordKind.ofCode (b0.extractLsb' 0 3).toNat
  let feed ← Feed.ofCode (b0.extractLsb' 4 2).toNat
  let r : MoveRecord :=
    { kind := kind
      targetSource := if b0.getLsbD 3 then .standing else .absolute
      argument := imageInt bytes (o + 2)
      step := imageInt bytes (o + 4)
      timeout := imageNat bytes (o + 6)
      feed := feed
      notify := b0.getLsbD 6
      update := b0.getLsbD 7
      stop := b1.getLsbD 7
      next := (b1.extractLsb' 0 5).toNat }
  if r.inRange then some r else none

/-- The records of slots `n` to 31, or none when one of them is out of range. -/
def imageRecords (bytes : List Byte) : Nat → Nat → Option (List MoveRecord)
  | 0, _ => some []
  | count + 1, n => do
    let r ← imageRecord bytes n
    let rest ← imageRecords bytes count (n + 1)
    some (r :: rest)

/-- The head and mirror bit at an offset; bits 5 and 6 are not read (R203). -/
def imageHead (bytes : List Byte) (i : Nat) : Head :=
  ⟨((imageByte bytes i).extractLsb' 0 5).toNat, (imageByte bytes i).getLsbD 7⟩

/-! ### The checks of R198 -/

/-- The header names the accepted version and its length (R198, R203). -/
def imageHeaderOk (bytes : List Byte) : Bool :=
  imageNat bytes 0 == imageVersion && imageNat bytes 2 == imageLength

/-- The word sum, the closing word included, is 0 modulo 65536 (R198). -/
def imageSumOk (bytes : List Byte) : Bool := imageSum bytes (imageLength / 2) == 0#16

/-- Bits 20 to 23 of both masks are clear (R203). -/
def imageMasksOk (bytes : List Byte) : Bool :=
  (imageSet bytes 85).extractLsb' 20 4 == 0#4 && (imageSet bytes 88).extractLsb' 20 4 == 0#4

/-- The configured values as the image stores them, or none when a code is outside its table. -/
def imageValues (bytes : List Byte) : Option Image := do
  let role ← Role.ofCode (imageByte bytes 5).toNat
  let feed ← Feed.ofCode (imageNat bytes 83)
  some
    { number := (imageByte bytes 4).toNat
      role := role
      position := (imageByte bytes 6).toNat
      branch := (imageByte bytes 7).toNat
      terminal := (imageByte bytes 8).getLsbD 0
      noFeedback := (imageByte bytes 8).getLsbD 1
      aTerm := imageNat bytes 9
      panel1 := (imageByte bytes 11).toNat
      panel2 := (imageByte bytes 12).toNat
      tB := imageNat bytes 13
      lF := imageNat bytes 15
      kp := imageNat bytes 17
      r0Init := imageNat bytes 19
      w := imageNat bytes 21
      fMax := imageNat bytes 23
      uMin := imageNat bytes 25
      duUp := imageNat bytes 27
      pOvl := imageNat bytes 29
      pLim := imageNat bytes 31
      pIdle := imageNat bytes 33
      pTouch := imageNat bytes 35
      lHigh := imageNat bytes 37
      lSet := imageNat bytes 39
      lLow := imageNat bytes 41
      lTgt := imageNat bytes 43
      kc := imageNat bytes 45
      kl := imageNat bytes 47
      rRed := imageNat bytes 49
      mBin := imageNat bytes 51
      tH := imageNat bytes 53
      gMin := imageNat bytes 55
      gMax := imageNat bytes 57
      gInit := imageNat bytes 59
      db := imageNat bytes 61
      qIdle := imageNat bytes 63
      wJump := imageNat bytes 65
      wMax := imageNat bytes 67
      startLimit := imageNat bytes 69
      spinUpLimit := imageNat bytes 71
      interlockLimit := imageNat bytes 73
      drainTime := imageNat bytes 75
      settleLimit := imageNat bytes 77
      calInterval := imageNat bytes 79
      orderTimeout := imageNat bytes 81
      orderFeed := feed
      attnMask := (imageSet bytes 85).extractLsb' 0 20
      tripMask := (imageSet bytes 88).extractLsb' 0 20
      headTramp := imageHead bytes 339
      headOverload := imageHead bytes 340
      headCalibrate := imageHead bytes 341
      headStart := imageHead bytes 342
      headSchedule := imageHead bytes 343 }

/-- The ranges of identity, line and measurement parameters (R198). -/
def Image.rangesA (i : Image) : Bool :=
  within 1 30 i.number && within 1 15 i.position && within 0 3 i.branch && within 0 4000 i.aTerm &&
    within 0 30 i.panel1 && within 0 30 i.panel2 && within 100 1000 i.tB && i.tB % 10 == 0 &&
    within 2 8 i.lF && within 1 2048 i.kp && within 1 4094 i.r0Init && within 0 1000 i.w &&
    within 1 4000 i.fMax && within 0 500 i.uMin && within 1 1000 i.duUp && within 500 1200 i.pLim &&
    within 20 200 i.pIdle && within 100 1500 i.pTouch && within 100 1000 i.lHigh &&
    within 0 1000 i.lSet && within 0 1000 i.lLow && within 0 1000 i.lTgt

/-- The ranges of the other parameters (R198). -/
def Image.rangesB (i : Image) : Bool :=
  within 1 10000 i.kc && within 0 255 i.kl && within 0 1000 i.rRed && within 1 10000 i.mBin &&
    within 60 3600 i.tH && within 0 3000 i.gMin && within 0 3000 i.gMax && within 0 3000 i.gInit &&
    within 1 20 i.db && within 0 400 i.qIdle && within 1 500 i.wJump && within 1 3000 i.wMax &&
    within 10 600 i.startLimit && within 1 60 i.spinUpLimit && within 1 60 i.interlockLimit &&
    within 5 300 i.drainTime && within 5 300 i.settleLimit && within 60 30000 i.calInterval &&
    within 1 600 i.orderTimeout && within 0 31 i.headTramp.slot && within 0 31 i.headOverload.slot &&
    within 0 31 i.headCalibrate.slot && within 0 31 i.headStart.slot && within 0 31 i.headSchedule.slot

/-- The relations, and the limits on the trip-select mask and the no-feedback flag (R187, R198). -/
def Image.relations (i : Image) : Bool :=
  decide (i.pLim < i.pOvl) && decide (i.pOvl ≤ 1500) && decide (i.gMin < i.gMax) &&
    decide (i.gMin ≤ i.gInit) && decide (i.gInit ≤ i.gMax) &&
    (i.tripMask &&& ~~~selectableKinds) == 0#20 && (!i.noFeedback || i.role == .bin)

/-- Every configured value is as R198 wants it. -/
def Image.ok (i : Image) : Bool := i.rangesA && i.rangesB && i.relations

/-- The values of a valid image and its records of slots 1 to 31, or none when a check fails (R198). -/
def readImage (bytes : List Byte) : Option (Image × List MoveRecord) := do
  let i ← imageValues bytes
  let records ← imageRecords bytes 31 1
  if imageHeaderOk bytes && imageSumOk bytes && imageMasksOk bytes && i.ok then some (i, records)
  else none

/-! ### The hand-over (R199) -/

/-- The order record (R110). -/
def orderRecord (i : Image) (gSet : Nat) : MoveRecord where
  kind := .gapTo
  targetSource := .standing
  argument := (gSet : Int)
  step := 0
  timeout := i.orderTimeout
  feed := i.orderFeed
  notify := false
  update := false
  stop := true
  next := 0

/-- The source that role and w fix (R50, R51, R58). -/
def Image.fixedSource (i : Image) : Source := if i.role == .bin || i.w == 0 then .estimate else .scale

/-- The hand-over of a valid image to the blocks, before READY is entered (R199). A failure of the crystal after
it is none that a reset found (R202). -/
def State.handOver (s : State) (i : Image) (records : List MoveRecord) : State :=
  { s with
    cfg := { s.cfg with validity := .valid, image := i, restartWatch := false }
    mve := { s.mve with table := orderRecord i i.gInit :: records, gSet := i.gInit }
    mfe := { s.mfe with source := i.fixedSource, estimated := i.fixedSource == .estimate }
    cwu :=
      { s.cwu with
        r0 := if s.cwu.r0Set then s.cwu.r0 else i.r0Init
        r0Set := true
        due :=
          match s.cfg.lastReset with
          | .powerOn => s.cwu.due
          | .pin => decide (i.calInterval ≤ s.cwu.sinceCal) } }

end Sys2Proof.Machine
end

