-- ==== Sys2Proof/Machine/Measure.lean ====
section
/-! DEFINITION. The measurement front end: samples, the belt scale and its watchdog, period work, and the
two conditions (chapter 3). -/

namespace Sys2Proof.Machine

/-! ### Throughput (R45, R49, R50) -/

/-- The scale throughput of a window (R45). -/
def scaleThroughput (w tB : Nat) (window : List Nat) : Nat :=
  satNat 4000 (window.sum * w * 3600 / (16 * tB))

/-- The sum of the throughputs of some members, saturating at 4000 (R49, R50). -/
def sumThroughput (members : List PeerEntry) : Nat :=
  satNat 4000 (members.map PeerEntry.throughput).sum

/-- The estimate of the station's role (R49, R50). -/
def State.estimate (s : State) : Nat :=
  match s.cfg.image.role with
  | .feeder => s.ale.u * s.cfg.image.fMax / 1000
  | .crusher => sumThroughput (s.upstream.filter PeerEntry.isRunning)
  | .bin => sumThroughput s.upstream

/-- Step 3 of the period work: Q from the source as it stands (R49). -/
def State.formQ (s : State) : State :=
  match s.mfe.source with
  | .scale =>
    { s with
      mfe :=
        { s.mfe with
          q := scaleThroughput s.cfg.image.w s.cfg.image.tB s.mfe.window
          estimated := false } }
  | .estimate => { s with mfe := { s.mfe with q := s.estimate, estimated := true } }

/-! ### Period work (R44, R46, R47) -/

/-- Step 1: the current-period count goes into the window. -/
def Mfe.pushWindow (m : Mfe) : Mfe := { m with window := m.window.drop 1 ++ [m.pulses], pulses := 0 }

/-- The station is feeding (R46). -/
def State.feeding (s : State) : Bool :=
  match s.cfg.image.role with
  | .feeder => decide (0 < s.ale.u)
  | .crusher => decide (s.cfg.image.pIdle ≤ s.mfe.load)
  | .bin => false

/-- The count at which the scale is lost (R47). -/
def watchdogLimit : Nat := 16

/-- The count that step 2 forms (R46). -/
def State.watchdogNext (s : State) : Nat :=
  match s.mfe.source with
  | .estimate => 0
  | .scale =>
    if s.rsc.runState == .running && s.feeding then s.mfe.watchdog + 1 else s.mfe.watchdog

/-- Step 2 brings the watchdog to 16 (R47). -/
def State.scaleLoses (s : State) : Bool := decide (watchdogLimit ≤ s.watchdogNext)

/-- Step 2: the watchdog, and SCALE_LOST (R46, R47). -/
def State.stepWatchdog (s : State) : State :=
  if s.scaleLoses then
    State.raise { s with mfe := { s.mfe with watchdog := 0, source := .estimate } } .scaleLost
  else { s with mfe := { s.mfe with watchdog := s.watchdogNext } }

/-- The MFE's period work, one operation (R44), and then a SELECTED trip that SCALE_LOST calls for
(R189, log entry 26). -/
def State.mfePeriod (s : State) : State :=
  let s1 := { s with mfe := s.mfe.pushWindow }
  let s2 := s1.stepWatchdog.formQ
  if s1.scaleLoses then s2.tripIfSelected .scaleLost else s2

/-- A RESTORE_SCALE order at a station that has a scale (R48). -/
def State.restoreScale (s : State) : State :=
  State.formQ { s with mfe := { s.mfe with source := .scale, watchdog := 0 } }

/-- The SCALE input is watched: not by a BIN and not with w = 0 (R43, R51). -/
def Image.watchesScale (i : Image) : Bool := i.role != .bin && i.w != 0

/-- An edge now is an accepted pulse: it does not come less than 100 us after the last accepted one (R43). -/
def Mfe.acceptsPulse (m : Mfe) : Bool :=
  match m.pulseTimer with
  | .stopped => true
  | .running e => decide (Config.pulseGap ≤ e)

/-- One accepted pulse (R43). -/
def Mfe.pulse (m : Mfe) : Mfe :=
  { m with
    pulses := satNat 65535 (m.pulses + 1)
    pulseTimer := .running 0
    watchdog := match m.source with
      | .scale => 0
      | .estimate => m.watchdog }

/-! ### Conditions (R53, R54) -/

/-- One step of a condition: its state, its count of consecutive samples, the count that changes it,
and whether this sample counts toward setting and toward clearing. -/
def conditionStep (set : Bool) (count limit : Nat) (sets clears : Bool) : Bool × Nat :=
  let counts := if set then clears else sets
  if counts then if limit ≤ count + 1 then (!set, 0) else (set, count + 1) else (set, 0)

/-- The OVERLOAD condition after a LOAD sample (R53). -/
def Mfe.stepOverload (m : Mfe) (i : Image) : Mfe :=
  let r :=
    conditionStep m.overload m.overloadCount 4 (decide (i.pOvl ≤ m.load)) (decide (m.load < i.pLim))
  { m with overload := r.1, overloadCount := r.2 }

/-- The LEVEL_HIGH condition after a LEVEL sample (R54). -/
def Mfe.stepLevelHigh (m : Mfe) (i : Image) : Mfe :=
  let r :=
    conditionStep m.levelHigh m.levelCount 2 (decide (i.lHigh ≤ m.level))
      (decide (m.level + 50 < i.lHigh))
  { m with levelHigh := r.1, levelCount := r.2 }

/-- The OVERLOAD condition notice at the RSC: the hold cause, and in RUNNING or HOLDING the OVERLOAD
request (R93; log entry 16). -/
def State.overloadNotice (s : State) : State :=
  let s1 := s.changeHold { s.rsc.hold with overload := s.mfe.overload }
  if s.mfe.overload && s1.rsc.runState.isTurning then s1.requestChain .overload else s1

/-- The LEVEL_HIGH condition notice at the RSC (R93). -/
def State.levelNotice (s : State) : State :=
  s.changeHold { s.rsc.hold with levelHigh := s.mfe.levelHigh }

/-! ### Samples (R38 to R42) -/

/-- What follows within a sample once its value, its condition and its events stand. -/
inductive SampleAct where
  | selected (k : EventKind)
  | overload
  | levelHigh
  | load
  | gap
  deriving DecidableEq, Repr

/-- One of these. -/
def State.act (s : State) : SampleAct → State
  | .selected k => s.tripIfSelected k
  | .overload => s.overloadNotice
  | .levelHigh => s.levelNotice
  | .load => s.loadNotice
  | .gap => s.gapNotice

/-- Take several of them in the free order of log entry 4; one alone needs no order. -/
def State.takeActs (s : State) (acts : List SampleAct) : State :=
  match acts with
  | [] => s
  | [a] => s.act a
  | a :: b :: l =>
    (arrange (Config.noticeOrder s.draws) (a :: b :: l)).foldl State.act s.drawn

/-- The trip that a kind raised now calls for, if its kind is selected (R189). -/
def State.selectedAct (s : State) (k : EventKind) : List SampleAct :=
  if s.cfg.image.tripMask.has k then [.selected k] else []

/-- A LOAD sample at a CRUSHER (R39, R53). -/
def State.loadSample (s : State) (count : Nat) : State :=
  let m := { s.mfe with load := loadOfCount count }.stepOverload s.cfg.image
  let s1 := { s with mfe := m }
  if m.overload == s.mfe.overload then s1.takeActs [.load]
  else if m.overload then (s1.raise .overload).takeActs (s1.selectedAct .overload ++ [.overload, .load])
  else s1.takeActs [.overload, .load]

/-- A LEVEL sample at a CRUSHER or a BIN (R39, R54). -/
def State.levelSample (s : State) (count : Nat) : State :=
  let m := { s.mfe with level := levelOfCount count }.stepLevelHigh s.cfg.image
  let s1 := { s with mfe := m }
  if m.levelHigh == s.mfe.levelHigh then s1
  else if m.levelHigh then
    (s1.raise .levelHigh).takeActs (s1.selectedAct .levelHigh ++ [.levelHigh])
  else s1.takeActs [.levelHigh]

/-- A GAPPOS sample at a CRUSHER (R40 to R42). -/
def State.gapSample (s : State) (count : Nat) : State :=
  if rawValid count then
    let m :=
      { s.mfe with
        raw := count
        gap := gapOfRaw s.cwu.r0 s.cfg.image.kp count
        gapValid := true
        gapSampled := true }
    State.takeActs { s with mfe := m } [.gap]
  else
    let s1 := { s with mfe := { s.mfe with raw := count, gapValid := false, gapSampled := true } }
    if s.mfe.gapValid || !s.mfe.gapSampled then
      (s1.raise .gapSensor).takeActs (s1.selectedAct .gapSensor ++ [.gap])
    else s1.takeActs [.gap]

/-- The role uses the channel (spec/03, section 3.1). -/
def Role.uses (r : Role) (c : Channel) : Bool :=
  match c, r with
  | .load, .crusher => true
  | .level, .crusher => true
  | .level, .bin => true
  | .gapPos, .crusher => true
  | _, _ => false

/-- One sample of a channel that the role uses; samples are taken in every run state but OFFLINE (R38). Each
SAMPLE_EVENT is taken as it comes: the 50 ms between two of them are the sender's matter (DESIGN CHOICE, log
entry 9). -/
def State.sample (s : State) (channel : Channel) (count : Nat) : State :=
  if s.rsc.runState != .offline && s.cfg.image.role.uses channel then
    match channel with
    | .load => s.loadSample count
    | .level => s.levelSample count
    | .gapPos => s.gapSample count
  else s

end Sys2Proof.Machine
end

