-- ==== Sys2Proof/Machine/RunControl.lean ====
section
/-! DEFINITION. The run-state controller: starting, entry to the running group, the downstream hold, the
interlock, draining and stopping (chapter 5). -/

namespace Sys2Proof.Machine

/-! ### Conditions on the neighbours -/

/-- The proceed condition (R87). -/
def State.proceeds (s : State) : Bool :=
  s.cfg.image.terminal ||
    (!s.downstream.isEmpty && s.downstream.all PeerEntry.isRunning)

/-- D has no active member (R96). -/
def State.noneActive (s : State) : Bool := s.downstream.all fun e => !e.isActive

/-- The DOWNSTREAM hold cause is present (R95); a BIN never takes it. -/
def State.downstreamCause (s : State) : Bool :=
  s.cfg.image.role != .bin &&
    ((!s.noneActive && s.downstream.all fun e => !e.isRunning) ||
      (s.downstream.isEmpty && !s.cfg.image.terminal))

/-- The interlock condition of a station that keeps the timer (R96). -/
def State.interlockCondition (s : State) : Bool :=
  s.cfg.image.role != .bin && !s.cfg.image.terminal && s.rsc.runState.isTurning && s.noneActive

/-- The drain condition (R99). -/
def State.drainCondition (s : State) : Bool :=
  (s.upstream.all fun e => !e.isActive) && decide (s.mfe.q ≤ s.cfg.image.qIdle)

/-- Evaluate the interlock condition: the timer follows it (R96). -/
def State.evaluateInterlock (s : State) : State :=
  { s with rsc := { s.rsc with interlockTimer := s.rsc.interlockTimer.follow s.interlockCondition } }

/-- Evaluate the drain condition in STOPPING: the timer follows it (R99). -/
def State.evaluateDrain (s : State) : State :=
  if s.rsc.runState == .stopping then
    { s with rsc := { s.rsc with drainTimer := s.rsc.drainTimer.follow s.drainCondition } }
  else s

/-! ### Entry to the running group (R90) -/

/-- The tramp cause at an entry: the relief is open and the station has a tramp chain (R155). -/
def State.trampAtEntry (s : State) : Bool :=
  s.cfg.image.role == .crusher && s.mfe.trampIn && s.cfg.image.hasChain .tramp

/-- The hold causes taken up at an entry (R90, step 2). -/
def State.entryHold (s : State) : HoldSet where
  tramp := s.trampAtEntry
  overload := s.mfe.overload
  levelHigh := s.mfe.levelHigh
  move := false
  moveFault := s.mve.parked.isSome
  downstream := s.downstreamCause
  ordered := false

/-- The requests that an entry raises join those kept (R90, step 5; R155, R169). -/
def State.entryRequests (s : State) : RequestSet :=
  { s.mve.requests with
    tramp := s.mve.requests.tramp || s.trampAtEntry
    overload := s.mve.requests.overload || (s.mfe.overload && s.cfg.image.hasChain .overload)
    start := s.mve.requests.start || s.cfg.image.hasChain .start
    schedule :=
      s.mve.requests.schedule ||
        (s.cfg.image.role == .crusher && s.cwu.due && s.scheduleAllowed) }

/-- Steps 1 to 3 of an entry, and the tramp count of R155. -/
def State.enterStates (s : State) : State :=
  let h := s.entryHold
  let s1 := s.changeRun (if h.isEmpty then .running else .holding)
  { s1 with
    rsc :=
      { s1.rsc with
        subPhase := none
        startTimer := .stopped
        spinTimer := .stopped
        hold := h }
    cwu := { s1.cwu with attempts := if h.tramp then 1 else s1.cwu.attempts } }

/-- Entry to the running group from STARTING (R90). A relief that is open at a station without a tramp
chain trips it after the entry (R155). -/
def State.enterGroup (s : State) : State :=
  let requests := s.entryRequests
  let s1 := s.enterStates.evaluateInterlock
  let s2 := (State.select { s1 with mve := { s1.mve with requests := requests } }).syncHold
  if s.cfg.image.role == .crusher && s.mfe.trampIn && !s.cfg.image.hasChain .tramp then
    s2.trip .trampUncleared
  else s2

/-! ### Starting (R86, R87, R89) -/

/-- The station proceeds to SPIN_UP, and with feedback, or without a feedback configured, it enters the
running group at once (R87, R89). -/
def State.proceed (s : State) : State :=
  let s1 :=
    { s with
      rsc :=
        { s.rsc with
          startTimer := .stopped
          subPhase := some .spinUp
          spinTimer := .running 0 } }
  if s.cfg.image.noFeedback || s.mfe.runFbIn then s1.enterGroup else s1

/-- Evaluate the proceed condition in WAIT_DOWNSTREAM (R87). -/
def State.evaluateProceed (s : State) : State :=
  if s.rsc.runState == .starting && s.rsc.subPhase == some .waitDownstream && s.proceeds then
    s.proceed
  else s

/-- START_LINE in READY (R86). -/
def State.startLineTaken (s : State) : State :=
  let s1 := s.changeRun .starting
  State.evaluateProceed
    { s1 with
      rsc := { s1.rsc with subPhase := some .waitDownstream, startTimer := .running 0 } }

/-! ### The RSC's evaluations -/

/-- What the RSC evaluates on a neighbour notice and at a period expiry: the downstream wait, the
DOWNSTREAM cause, the interlock and the drain (R28, R87, R95, R96, R99). -/
def State.evaluateLine (s : State) : State :=
  if s.rsc.runState.inGroup then
    (s.setHold { s.rsc.hold with downstream := s.downstreamCause }).evaluateInterlock.evaluateDrain
  else s.evaluateProceed

/-- A neighbour notice, RSC before MVE (R28; log entry 17). -/
def State.neighbourNotice (s : State) : State := s.evaluateLine.stopTest

/-- The notice that a change of the table from `s` to `t` gives, if any (R28). -/
def State.afterTable (s t : State) : State :=
  if neighboursChanged s t then t.neighbourNotice else t

/-- The MVE's evaluation after a step in which Q or A may have changed from what `s` held (R127, R128). -/
def State.afterQA (s t : State) : State :=
  if t.mfe.q = s.mfe.q ∧ t.ale.a = s.ale.a then t else t.reduceTest

/-! ### Stopping (R97, R98, R100) -/

/-- Leave the running group for READY (R97, R100). -/
def State.leaveGroup (s : State) : State := s.changeRun .ready

/-- STOP_LINE in STARTING (R98). -/
def State.stopStarting (s : State) : State :=
  let s1 := s.changeRun .ready
  { s1 with
    rsc := { s1.rsc with subPhase := none, startTimer := .stopped, spinTimer := .stopped } }

/-- STOP_LINE in RUNNING or HOLDING (R98). -/
def State.stopRunning (s : State) : State :=
  let s1 := s.changeRun .stopping
  s.afterQA
    (State.evaluateDrain { s1 with rsc := { s1.rsc with interlockTimer := .stopped } })

/-- STOP_LINE as the RSC takes it (R98). -/
def State.stopLineTaken (s : State) : State :=
  match s.rsc.runState with
  | .starting => s.stopStarting
  | .running | .holding => s.stopRunning
  | .offline | .ready | .stopping | .tripped => s

/-- The two tests of CLEAR_TRIP (R104). -/
def State.clearable (s : State) : Bool := !s.mfe.pullcordIn && s.lbi.dupQuiet == 2

/-- A CLEAR_TRIP that succeeds (R104). -/
def State.clearTripTaken (s : State) : State :=
  let s1 := s.changeRun .ready
  { s1 with rsc := { s1.rsc with tripCause := none } }

end Sys2Proof.Machine
end

