-- ==== Sys2Proof/Machine/Orders.lean ====
section
/-! DEFINITION. The order decoder and the meanings of the fourteen orders and of UNKNOWN_KIND (chapter 9). -/

namespace Sys2Proof.Machine

/-! ### What each owner does with an order, and the result it reports (R177, R179 to R183) -/

/-- A new state, and the result that goes into the echo. -/
abbrev Answered := State × OrderResult

/-- ACCEPTED or CLAMPED. -/
def clampResult (clamped : Bool) : OrderResult := if clamped then .clamped else .accepted

/-- START_LINE (R86, R179). -/
def State.orderStartLine (s : State) : Answered :=
  if s.rsc.runState == .ready then (s.startLineTaken, .accepted) else (s, .refusedState)

/-- The run states in which STOP_LINE is handed on (R179). -/
def RunState.takesStop (r : RunState) : Bool := r == .starting || r.isTurning

/-- STOP_LINE (R98, R179). -/
def State.orderStopLine (s : State) : Answered :=
  if s.rsc.runState.takesStop then (s.stopLineTaken, .accepted) else (s, .refusedState)

/-- HOLD (R94, R179). -/
def State.orderHold (s : State) : Answered :=
  if s.rsc.runState.inGroup then (s.changeHold { s.rsc.hold with ordered := true }, .accepted)
  else (s, .refusedState)

/-- RELEASE (R94, R179). -/
def State.orderRelease (s : State) : Answered :=
  (s.changeHold { s.rsc.hold with ordered := false }, .accepted)

/-- CLEAR_TRIP (R104, R179). -/
def State.orderClearTrip (s : State) : Answered :=
  if s.rsc.runState == .tripped && s.clearable then (s.clearTripTaken, .accepted)
  else (s, .refusedState)

/-- Steps 1 and 2 of a SET_GAP: g_set and the order slot (R110). -/
def State.writeGap (s : State) (gap : Nat) : State :=
  { s with
    mve :=
      { s.mve with
        gSet := gap
        table := s.mve.table.set 0 (orderRecord s.cfg.image gap) } }

/-- SET_GAP (R110, R180). -/
def State.orderSetGap (s : State) (arg : Nat) : Answered :=
  if s.cfg.image.role == .crusher then
    let gap := clampNat s.cfg.image.gMin s.cfg.image.gMax arg
    let s1 := s.writeGap gap
    (if s1.rsc.runState.isTurning then s1.request .orderGap else s1, clampResult (gap != arg))
  else (s, .refusedRole)

/-- SET_CAP (R71, R180). -/
def State.orderSetCap (s : State) (arg : Nat) : Answered :=
  if s.cfg.image.role == .feeder then
    ({ s with ale := { s.ale with cap := satNat 1000 arg } }, clampResult (decide (1000 < arg)))
  else (s, .refusedRole)

/-- CALIBRATE (R181). -/
def State.orderCalibrate (s : State) : Answered :=
  if s.cfg.image.role == .crusher && s.cfg.image.hasChain .calibrate then
    if s.rsc.runState.isTurning then (s.request .calibrate, .accepted) else (s, .refusedState)
  else (s, .refusedRole)

/-- MOVE_RETRY (R148, R181). -/
def State.orderMoveRetry (s : State) : Answered :=
  match s.mve.parked with
  | some c => if s.retryTaken then (s.retry c, .accepted) else (s, .refusedState)
  | none => (s, .refusedState)

/-- MOVE_DISCARD (R149, R181). -/
def State.orderMoveDiscard (s : State) : Answered :=
  if s.mve.parked.isSome then (s.discardFault, .accepted) else (s, .refusedState)

/-- RESTORE_SCALE (R48, R182); the RSC and the MVE evaluate on the new Q (R99, R127, R128). -/
def State.orderRestoreScale (s : State) : Answered :=
  if s.cfg.image.watchesScale then
    let s1 := s.restoreScale
    (if s1.mfe.q = s.mfe.q then s1 else s1.evaluateDrain.reduceTest, .accepted)
  else (s, .refusedRole)

/-- READ_CAL (R167, R182). -/
def State.orderReadCal (s : State) (index : Nat) : Answered :=
  if s.cfg.image.role == .crusher then
    let r := s.cwu.select index
    ({ s with cwu := r.1 }, clampResult r.2)
  else (s, .refusedRole)

/-- LINER_CHANGED (R170, R182). -/
def State.orderLinerChanged (s : State) : Answered :=
  if s.cfg.image.role == .crusher then
    if s.rsc.runState.isTurning then (s, .refusedState)
    else ({ s with cwu := s.cwu.newLiner }, .accepted)
  else (s, .refusedRole)

/-- ACK_EVENTS (R183, R186); bits that name no kind are passed over. -/
def State.orderAckEvents (s : State) (kinds : BitVec 24) : Answered :=
  ({ s with evu := ⟨s.evu.events.remove (kinds.extractLsb' 0 20)⟩ }, .accepted)

/-- An order of correct form goes to its checks and its owner. -/
def State.give (s : State) : Order → Answered
  | .startLine => s.orderStartLine
  | .stopLine => s.orderStopLine
  | .hold => s.orderHold
  | .release => s.orderRelease
  | .clearTrip => s.orderClearTrip
  | .setGap gap => s.orderSetGap gap
  | .setCap cap => s.orderSetCap cap
  | .calibrate => s.orderCalibrate
  | .moveRetry => s.orderMoveRetry
  | .moveDiscard => s.orderMoveDiscard
  | .restoreScale => s.orderRestoreScale
  | .readCal index => s.orderReadCal index
  | .linerChanged => s.orderLinerChanged
  | .ackEvents kinds => s.orderAckEvents kinds

/-! ### The checks of the ORD (R174 to R177) -/

/-- The order is addressed to this station (R174). -/
def State.addressed (s : State) (target : Byte) : Bool :=
  target.toNat == s.cfg.image.number || target.toNat == 31

/-- The source is a panel of this station (R175). -/
def State.permitted (s : State) (source : Byte) : Bool :=
  source.toNat != 0 && (source.toNat == s.cfg.image.panel1 || source.toNat == s.cfg.image.panel2)

/-- Set the order echo (R173). -/
def State.setEcho (s : State) (tag kind : Byte) (result : OrderResult) : State :=
  { s with echo := some ⟨tag, kind, result⟩ }

/-- The source check and what follows it, of an addressed order that `act` answers. -/
def State.answer (s : State) (head : OrderHead) (kind : Byte) (act : State → Answered) : State :=
  if s.addressed head.target then
    if s.permitted head.source then
      let r := act s
      r.1.setEcho head.tag kind r.2
    else s.setEcho head.tag kind .notPermitted
  else s

/-- The form check failed: UNKNOWN_KIND (R176). -/
def State.answerUnknown (s : State) : Answered := (s, .unknownKind)

/-- An ORDER telegram as received: the form check decides between the fourteen kinds and UNKNOWN_KIND
(R176). -/
def State.answerWire (s : State) (o : OrderTelegram) : State :=
  match Order.ofWire o.kind o.arg with
  | some order => s.answer o.head o.kind fun t => t.give order
  | none => s.answer o.head o.kind State.answerUnknown

/-! ### Reception -/

/-- A complete telegram has come in: the receiving side hunts, and the medium has just been busy (R14). -/
def State.tookTelegram (s : State) : State := { s with lbi := { s.lbi.hunt with idleTime := 0 } }

/-- A valid reception from another transmitter (R18). -/
def State.heard (s : State) : State := { s with lbi := { s.lbi with silent := 0 } }

/-- A valid ORDER telegram, answered by `answer` while the receiving side runs (R14, R17, R173). -/
def State.order (s : State) (answer : State → State) : State :=
  if s.receives then answer s.tookTelegram.heard else s

/-- The form of the meaning of an order row. -/
def State.orderEvent (s : State) (head : OrderHead) (kind : Byte) (act : State → Answered) :
    Host.Outcome State Fault Refusal :=
  s.event fun t => t.order fun u => u.answer head kind act

/-! ### The meanings -/

/-- UNKNOWN_KIND (R176). An operand pair that does make one of the fourteen orders is that order. -/
def execUnknownKind (head : OrderHead) (kind : Byte) (arg : Option (BitVec 24)) (s : State) :
    Host.Outcome State Fault Refusal :=
  s.event fun t => t.order fun u => u.answerWire ⟨head, kind, arg⟩

/-- START_LINE (R86). -/
def execStartLine (head : OrderHead) (s : State) : Host.Outcome State Fault Refusal :=
  s.orderEvent head Order.startLine.code State.orderStartLine

/-- STOP_LINE (R98). -/
def execStopLine (head : OrderHead) (s : State) : Host.Outcome State Fault Refusal :=
  s.orderEvent head Order.stopLine.code State.orderStopLine

/-- HOLD (R94). -/
def execHold (head : OrderHead) (s : State) : Host.Outcome State Fault Refusal :=
  s.orderEvent head Order.hold.code State.orderHold

/-- RELEASE (R94). -/
def execRelease (head : OrderHead) (s : State) : Host.Outcome State Fault Refusal :=
  s.orderEvent head Order.release.code State.orderRelease

/-- CLEAR_TRIP (R104). -/
def execClearTrip (head : OrderHead) (s : State) : Host.Outcome State Fault Refusal :=
  s.orderEvent head Order.clearTrip.code State.orderClearTrip

/-- SET_GAP (R110). -/
def execSetGap (head : OrderHead) (arg : BitVec 16) (s : State) :
    Host.Outcome State Fault Refusal :=
  s.orderEvent head (Order.setGap arg.toNat).code fun t => t.orderSetGap arg.toNat

/-- SET_CAP (R71). -/
def execSetCap (head : OrderHead) (arg : BitVec 16) (s : State) :
    Host.Outcome State Fault Refusal :=
  s.orderEvent head (Order.setCap arg.toNat).code fun t => t.orderSetCap arg.toNat

/-- CALIBRATE (R181). -/
def execCalibrate (head : OrderHead) (s : State) : Host.Outcome State Fault Refusal :=
  s.orderEvent head Order.calibrate.code State.orderCalibrate

/-- MOVE_RETRY (R148). -/
def execMoveRetry (head : OrderHead) (s : State) : Host.Outcome State Fault Refusal :=
  s.orderEvent head Order.moveRetry.code State.orderMoveRetry

/-- MOVE_DISCARD (R149). -/
def execMoveDiscard (head : OrderHead) (s : State) : Host.Outcome State Fault Refusal :=
  s.orderEvent head Order.moveDiscard.code State.orderMoveDiscard

/-- RESTORE_SCALE (R48). -/
def execRestoreScale (head : OrderHead) (s : State) : Host.Outcome State Fault Refusal :=
  s.orderEvent head Order.restoreScale.code State.orderRestoreScale

/-- READ_CAL (R167). -/
def execReadCal (head : OrderHead) (arg : BitVec 16) (s : State) :
    Host.Outcome State Fault Refusal :=
  s.orderEvent head (Order.readCal arg.toNat).code fun t => t.orderReadCal arg.toNat

/-- LINER_CHANGED (R170). -/
def execLinerChanged (head : OrderHead) (s : State) : Host.Outcome State Fault Refusal :=
  s.orderEvent head Order.linerChanged.code State.orderLinerChanged

/-- ACK_EVENTS (R186). -/
def execAckEvents (head : OrderHead) (kinds : BitVec 24) (s : State) :
    Host.Outcome State Fault Refusal :=
  s.orderEvent head (Order.ackEvents kinds).code fun t => t.orderAckEvents kinds

end Sys2Proof.Machine
end

