-- ==== Sys2Proof/Machine/Telegram.lean ====
section
/-! DEFINITION. Telegrams on the wire: CRC, composition, decoding (R2, R15, R203), and the contents the
station takes for its own STATE telegram (R3, R4, R9). -/

namespace Sys2Proof

/-! ### Bytes and words -/

/-- A word, high byte first. -/
def wordBytes (w : BitVec 16) : List Byte := [w.extractLsb' 8 8, w.extractLsb' 0 8]

/-- Three bytes, highest first. -/
def tripleBytes (w : BitVec 24) : List Byte :=
  [w.extractLsb' 16 8, w.extractLsb' 8 8, w.extractLsb' 0 8]

/-- The start delimiter (spec/12, section 12.1). -/
def delimiter : Byte := 0xC5

/-- The smallest and the largest telegram of any kind (R2, R203). -/
def smallestTelegram : Nat := 10

/-- The largest telegram (R2). -/
def largestTelegram : Nat := 48

/-! ### The CRC (R2) -/

/-- One bit of the CRC register with generator x^16 + x^12 + x^5 + 1. -/
def crcShift (c : BitVec 16) : BitVec 16 := if c.msb then (c <<< 1) ^^^ 0x1021#16 else c <<< 1

/-- Feed one byte, most significant bit first. -/
def crcByte (c : BitVec 16) (b : Byte) : BitVec 16 :=
  crcShift (crcShift (crcShift (crcShift (crcShift (crcShift (crcShift (crcShift
    (c ^^^ (b ++ 0#8)))))))))

/-- The CRC of the bytes from the length byte through the last field byte: the register starts at all
ones, and nothing is inverted. -/
def crcOf (bytes : List Byte) : BitVec 16 := bytes.foldl crcByte 0xFFFF#16

/-- Close a telegram: the delimiter, the length of the whole, the kind and the rest, and the CRC. -/
def frame (body : List Byte) : List Byte :=
  let covered := BitVec.ofNat 8 (body.length + 4) :: body
  delimiter :: covered ++ wordBytes (crcOf covered)

/-! ### Composing (spec/12, sections 12.2 and 12.3) -/

/-- The bytes of an optional field: none when it is absent (R2). -/
def fieldBytes {α : Type} (bytes : α → List Byte) : Option α → List Byte
  | none => []
  | some x => bytes x

/-- The gap field. -/
def GapField.bytes (g : GapField) : List Byte :=
  wordBytes (BitVec.ofBool g.valid ++ 0#3 ++ g.measured) ++ wordBytes g.target

/-- The move summary. -/
def MoveSummary.bytes (m : MoveSummary) : List Byte :=
  wordBytes (0#1 ++ m.depth ++ 0#4 ++ m.top ++ m.middle ++ m.bottom) ++ [0#2 ++ m.requests]

/-- The move active field. -/
def MoveActive.bytes (m : MoveActive) : List Byte := [m.slot, 0#1 ++ m.phase ++ 0#1 ++ m.requester]

/-- The parked-fault field. -/
def ParkedFault.bytes (p : ParkedFault) : List Byte :=
  [p.slot, BitVec.ofBool p.mirror ++ p.requester ++ p.status]

/-- The order echo field. -/
def EchoField.bytes (e : EchoField) : List Byte := [e.tag, e.kind, e.result]

/-- The calibration report field. -/
def CalReport.bytes (c : CalReport) : List Byte :=
  [BitVec.ofBool c.accepted ++ 0#4 ++ c.index] ++ wordBytes c.number ++ wordBytes c.contact ++
    wordBytes c.wear ++ wordBytes c.hours

/-- The presence mask: one bit for each optional field, the trip cause in bit 0 (R203). -/
def StateTelegram.mask (t : StateTelegram) : BitVec 16 :=
  0#7 ++ BitVec.ofBool t.report.isSome ++ BitVec.ofBool t.echo.isSome ++
    BitVec.ofBool t.parked.isSome ++ BitVec.ofBool t.active.isSome ++
    BitVec.ofBool t.summary.isSome ++ BitVec.ofBool t.feed.isSome ++ BitVec.ofBool t.gap.isSome ++
    BitVec.ofBool t.level.isSome ++ BitVec.ofBool t.tripCause.isSome

/-- The fixed part after the presence mask, offsets 5 to 16. -/
def StateTelegram.fixedBytes (t : StateTelegram) : List Byte :=
  [t.source, t.role ++ 0#3 ++ t.runState,
    BitVec.ofBool t.terminal ++ 0#1 ++ t.branch ++ t.position, 0#1 ++ t.hold] ++
    wordBytes t.allowance ++ wordBytes (BitVec.ofBool t.estimated ++ 0#3 ++ t.throughput) ++
    [t.limiting] ++ tripleBytes (0#4 ++ t.events)

/-- The optional fields in the order of their mask bits. -/
def StateTelegram.optionalBytes (t : StateTelegram) : List Byte :=
  fieldBytes (fun c => [c]) t.tripCause ++ fieldBytes wordBytes t.level ++
    fieldBytes GapField.bytes t.gap ++ fieldBytes wordBytes t.feed ++
    fieldBytes MoveSummary.bytes t.summary ++ fieldBytes MoveActive.bytes t.active ++
    fieldBytes ParkedFault.bytes t.parked ++ fieldBytes EchoField.bytes t.echo ++
    fieldBytes CalReport.bytes t.report

/-- The STATE telegram with these contents (R203). -/
def StateTelegram.encode (t : StateTelegram) : List Byte :=
  frame (1#8 :: (wordBytes t.mask ++ t.fixedBytes ++ t.optionalBytes))

/-- The ORDER telegram with these contents (spec/12, section 12.3). -/
def OrderTelegram.encode (o : OrderTelegram) : List Byte :=
  frame
    ([2#8, 0#7 ++ BitVec.ofBool o.arg.isSome, o.head.source, o.head.target, o.head.tag, o.kind] ++
      fieldBytes tripleBytes o.arg)

/-! ### Decoding (R15, R203) -/

/-- Take one byte. -/
def readByte : List Byte → Option (Byte × List Byte)
  | b :: bs => some (b, bs)
  | [] => none

/-- Take a word, high byte first. -/
def readWord : List Byte → Option (BitVec 16 × List Byte)
  | a :: b :: bs => some (a ++ b, bs)
  | _ => none

/-- Take three bytes, highest first. -/
def readTriple : List Byte → Option (BitVec 24 × List Byte)
  | a :: b :: c :: bs => some (a ++ b ++ c, bs)
  | _ => none

/-- Take the gap field; unassigned bits are not read. -/
def readGap : List Byte → Option (GapField × List Byte)
  | a :: b :: c :: d :: bs =>
    some (⟨(a ++ b).extractLsb' 0 12, (a ++ b).getLsbD 15, c ++ d⟩, bs)
  | _ => none

/-- Take the move summary. -/
def readSummary : List Byte → Option (MoveSummary × List Byte)
  | a :: b :: c :: bs =>
    let w := a ++ b
    some
      (⟨w.extractLsb' 0 3, w.extractLsb' 3 3, w.extractLsb' 6 3, w.extractLsb' 13 2,
        c.extractLsb' 0 6⟩, bs)
  | _ => none

/-- Take the move active field. -/
def readActive : List Byte → Option (MoveActive × List Byte)
  | a :: b :: bs => some (⟨a, b.extractLsb' 0 3, b.extractLsb' 4 3⟩, bs)
  | _ => none

/-- Take the parked-fault field. -/
def readParked : List Byte → Option (ParkedFault × List Byte)
  | a :: b :: bs => some (⟨a, b.extractLsb' 0 4, b.extractLsb' 4 3, b.getLsbD 7⟩, bs)
  | _ => none

/-- Take the order echo field. -/
def readEcho : List Byte → Option (EchoField × List Byte)
  | a :: b :: c :: bs => some (⟨a, b, c⟩, bs)
  | _ => none

/-- Take the calibration report field. -/
def readReport : List Byte → Option (CalReport × List Byte)
  | i :: n1 :: n0 :: c1 :: c0 :: w1 :: w0 :: h1 :: h0 :: bs =>
    some (⟨i.extractLsb' 0 3, i.getLsbD 7, n1 ++ n0, c1 ++ c0, w1 ++ w0, h1 ++ h0⟩, bs)
  | _ => none

/-- Take an optional field when its mask bit is set. -/
def readField {α : Type} (present : Bool) (read : List Byte → Option (α × List Byte))
    (bs : List Byte) : Option (Option α × List Byte) :=
  if present then (read bs).map fun r => (some r.1, r.2) else some (none, bs)

/-- The fields of a STATE telegram after its kind: the mask, the fixed part and the optional fields,
with nothing left over. -/
def readState (bs : List Byte) : Option StateTelegram := do
  let (mask, bs) ← readWord bs
  if mask.extractLsb' 9 7 != 0#7 then none else
  let (source, bs) ← readByte bs
  let (states, bs) ← readByte bs
  let (place, bs) ← readByte bs
  let (hold, bs) ← readByte bs
  let (allowance, bs) ← readWord bs
  let (throughput, bs) ← readWord bs
  let (limiting, bs) ← readByte bs
  let (events, bs) ← readTriple bs
  let (tripCause, bs) ← readField (mask.getLsbD 0) readByte bs
  let (level, bs) ← readField (mask.getLsbD 1) readWord bs
  let (gap, bs) ← readField (mask.getLsbD 2) readGap bs
  let (feed, bs) ← readField (mask.getLsbD 3) readWord bs
  let (summary, bs) ← readField (mask.getLsbD 4) readSummary bs
  let (active, bs) ← readField (mask.getLsbD 5) readActive bs
  let (parked, bs) ← readField (mask.getLsbD 6) readParked bs
  let (echo, bs) ← readField (mask.getLsbD 7) readEcho bs
  let (report, bs) ← readField (mask.getLsbD 8) readReport bs
  if bs != [] then none else
  some
    { source := source
      runState := states.extractLsb' 0 3
      role := states.extractLsb' 6 2
      position := place.extractLsb' 0 4
      branch := place.extractLsb' 4 2
      terminal := place.getLsbD 7
      hold := hold.extractLsb' 0 7
      allowance := allowance
      throughput := throughput.extractLsb' 0 12
      estimated := throughput.getLsbD 15
      limiting := limiting
      events := events.extractLsb' 0 20
      tripCause := tripCause
      level := level
      gap := gap
      feed := feed
      summary := summary
      active := active
      parked := parked
      echo := echo
      report := report }

/-- The fields of an ORDER telegram after its kind. -/
def readOrder (bs : List Byte) : Option OrderTelegram := do
  let (mask, bs) ← readByte bs
  if mask.extractLsb' 1 7 != 0#7 then none else
  let (source, bs) ← readByte bs
  let (target, bs) ← readByte bs
  let (tag, bs) ← readByte bs
  let (kind, bs) ← readByte bs
  let (arg, bs) ← readField (mask.getLsbD 0) readTriple bs
  if bs != [] then none else
  some ⟨⟨source, target, tag⟩, kind, arg⟩

/-- A valid telegram of either kind. -/
inductive Telegram where
  | state (t : StateTelegram)
  | order (o : OrderTelegram)
  deriving DecidableEq, Repr

/-- The checks of R15 on a complete telegram, and its contents: the delimiter, the length, the CRC, the
kind, the mask, and the size that the kind and the mask give. -/
def decodeTelegram (bytes : List Byte) : Option Telegram :=
  match bytes with
  | first :: len :: rest =>
    let covered := (len :: rest).take (rest.length - 1)
    let crc := (len :: rest).drop (rest.length - 1)
    if first == delimiter && len.toNat == bytes.length && crc == wordBytes (crcOf covered) then
      match covered with
      | _ :: kind :: fields =>
        if kind == 1#8 then (readState fields).map Telegram.state
        else if kind == 2#8 then (readOrder fields).map Telegram.order
        else none
      | _ => none
    else none
  | _ => none

namespace Machine

/-! ### The station's own contents (R3, R4) -/

/-- The requester code of the stack entry at a place counted from the bottom. -/
def stackCode (stack : List Context) (i : Nat) : BitVec 3 :=
  match stack[i]? with
  | none => noRequester
  | some c => c.requester.code

/-- The MVE has something to report (R3, R4). -/
def Mve.hasStatus (m : Mve) : Bool :=
  m.active.isSome || !m.stack.isEmpty || m.parked.isSome || !m.requests.isEmpty

/-- The ring record at the report selection, counted from the newest (R167). -/
def Cwu.reported (c : Cwu) : Option CalRecord := c.ring.reverse[c.selection]?

/-- The calibration report of a ring record. -/
def CalRecord.report (r : CalRecord) (index : Nat) : CalReport where
  index := BitVec.ofNat 3 index
  accepted := r.accepted
  number := BitVec.ofNat 16 r.number
  contact := BitVec.ofNat 16 r.contact
  wear := BitVec.ofInt 16 r.wear
  hours := BitVec.ofNat 16 r.hours

/-- The contents of the station's STATE telegram, each field from the block that owns it as it stands
(R3, R4, R9). -/
def State.compose (s : State) : StateTelegram where
  source := BitVec.ofNat 8 s.cfg.image.number
  runState := s.rsc.runState.code
  role := s.cfg.image.role.code
  position := BitVec.ofNat 4 s.cfg.image.position
  branch := BitVec.ofNat 2 s.cfg.image.branch
  terminal := s.cfg.image.terminal
  hold := s.rsc.hold.code
  allowance := if s.rsc.runState == .running then BitVec.ofNat 16 s.ale.a else 0#16
  throughput := BitVec.ofNat 12 s.mfe.q
  estimated := s.mfe.estimated
  limiting := s.ale.term.code
  events := s.evu.events
  tripCause := if s.rsc.runState == .tripped then s.rsc.tripCause.map TripCause.code else none
  level := if s.cfg.image.role != .feeder then some (BitVec.ofNat 16 s.mfe.level) else none
  gap :=
    if s.cfg.image.role == .crusher then
      some ⟨BitVec.ofNat 12 s.mfe.gap, s.mfe.gapValid, BitVec.ofNat 16 s.mve.gSet⟩
    else none
  feed := if s.cfg.image.role == .feeder then some (BitVec.ofNat 16 s.ale.u) else none
  summary :=
    if s.mve.hasStatus then
      some
        ⟨stackCode s.mve.stack 0, stackCode s.mve.stack 1, stackCode s.mve.stack 2,
          BitVec.ofNat 2 s.mve.stack.length, s.mve.requests.code⟩
    else none
  active := s.mve.active.map fun c => ⟨BitVec.ofNat 8 c.slot, c.requester.code, c.phase.code⟩
  parked :=
    s.mve.parked.map fun c => ⟨BitVec.ofNat 8 c.slot, c.status.code, c.requester.code, c.mirror⟩
  echo := s.echo.map fun e => ⟨e.tag, e.kind, e.result.code⟩
  report :=
    if s.cfg.image.role == .crusher then
      s.cwu.reported.map fun r => r.report s.cwu.selection
    else none

/-- Start an attempt with fresh contents (R9, R10). -/
def State.startAttempt (s : State) : State :=
  { s with lbi := { s.lbi with tx := .sending, contents := some s.compose, idleTime := 0 } }

end Machine

end Sys2Proof
end

