-- ==== Sys2Proof/Machine/BusEvents.lean ====
section
/-! DEFINITION. The bus commands: attempts and their outcomes, the idle gap, received bytes, and complete
telegrams (chapter 1). -/

namespace Sys2Proof.Machine

/-! ### Sending (R9 to R12) -/

/-- The idle gap is reached with a telegram in WAIT_IDLE (R10). -/
def State.attemptStart (s : State) : State :=
  match s.lbi.tx with
  | .waitIdle => s.startAttempt
  | .idle | .sending | .backoff => s

/-- The backoff ends (R11). -/
def State.backoffEnd (s : State) : State :=
  match s.lbi.tx with
  | .backoff => s.startAttempt
  | .idle | .waitIdle | .sending => s

/-- The attempt succeeds (R10, R12). The contents stay, so that the telegram can be recognised as the
station's own whichever is taken first (R16). -/
def State.attemptSucceeds (s : State) : State :=
  match s.lbi.tx with
  | .sending =>
    { s with lbi := { s.lbi with tx := .idle, attempts := 0, idleTime := 0 }.followUp }
  | .idle | .waitIdle | .backoff => s

/-- The most losses after which another attempt is made (R11). -/
def lossLimit : Nat := 3

/-- The attempt is lost (R11, R12). -/
def State.attemptLost (s : State) : State :=
  match s.lbi.tx with
  | .sending =>
    let l := { s.lbi with contents := none, idleTime := 0 }
    if l.attempts < lossLimit then
      { s with lbi := { l with tx := .backoff, attempts := l.attempts + 1 } }
    else
      State.raise { s with lbi := { l with tx := .idle, attempts := 0 }.followUp } .busContention
  | .idle | .waitIdle | .backoff => s

/-! ### A STATE telegram (R16, R17, R23 to R25) -/

/-- The role, run state, limiting term, trip cause and position of a telegram are ones the manual lists
(R17; log entry 25). -/
def StateTelegram.listed (t : StateTelegram) : Bool :=
  decide (1 ≤ t.source.toNat) && decide (t.source.toNat ≤ 30) &&
    (Role.ofCode t.role.toNat).isSome && (RunState.ofCode t.runState.toNat).isSome &&
    decide (t.limiting.toNat ≤ 9) && decide (1 ≤ t.position.toNat) &&
    match t.tripCause with
    | none => true
    | some c => decide (1 ≤ c.toNat) && decide (c.toNat ≤ 8)

/-- The peer entry that a telegram gives (R21), if its codes name a role and a run state. -/
def StateTelegram.entry (t : StateTelegram) : Option PeerEntry := do
  let role ← Role.ofCode t.role.toNat
  let runState ← RunState.ofCode t.runState.toNat
  some
    { number := t.source.toNat
      role := role
      position := t.position.toNat
      branch := t.branch.toNat
      runState := runState
      allowance := t.allowance.toNat
      throughput := t.throughput.toNat
      level := t.level.map BitVec.toNat
      age := 0 }

/-- A duplicate of the station's number (R16). The sending side stops before the trip, so that the trip
begins no telegram (R102; log entry 22). -/
def State.duplicate (s : State) : State :=
  State.trip
    (State.raise
      { s with lbi := { s.lbi.stopSending with inhibit := true, dupQuiet := 0 } } .duplicateNumber)
    .duplicate

/-- The peer table takes an entry (R23 to R25), with the neighbour notice (R28) and the settle tests
that it leads to. -/
def State.takePeer (s : State) (e : PeerEntry) : State :=
  match writePeer s.cfg.image.lF e s.peers with
  | some ps => s.afterQA (s.afterTable { s with peers := ps })
  | none => s.raise .peerTableFull

/-- A STATE telegram of another station goes to the peer table when R17 lets it. -/
def State.foreign (s : State) (t : StateTelegram) : State :=
  if StateTelegram.listed t then
    match StateTelegram.entry t with
    | some e => s.takePeer e
    | none => s
  else s

/-- A valid STATE telegram: the station's own, a duplicate, or another station's (R16, R17). -/
def State.takeState (s : State) (own : Bool) (t : StateTelegram) : State :=
  if t.source.toNat = s.cfg.image.number then if own then s else s.heard.duplicate
  else s.heard.foreign t

/-- A valid STATE telegram while the receiving side runs (R14). -/
def State.stateTelegram (s : State) (own : Bool) (t : StateTelegram) : State :=
  if s.receives then s.tookTelegram.takeState own t else s

/-! ### Bytes (R14, R15) -/

/-- A complete telegram that fails the checks of R15 is dropped. -/
def State.discardTelegram (s : State) : State := if s.receives then s.tookTelegram else s

/-- The bytes are those of the attempt the station drove (R16; log entry 12). -/
def State.ownBytes (s : State) (bytes : List Byte) (t : StateTelegram) : Bool :=
  s.lbi.rxDriven && s.lbi.contents == some t && bytes == t.encode

/-- A complete telegram (R15). -/
def State.completeTelegram (s : State) (bytes : List Byte) : State :=
  match decodeTelegram bytes with
  | none => s.tookTelegram
  | some (.state t) => s.tookTelegram.takeState (s.ownBytes bytes t) t
  | some (.order o) => s.tookTelegram.heard.answerWire o

/-- The length byte of bytes that hold one. -/
def lengthByte (bytes : List Byte) : Nat := (bytes.getD 1 0#8).toNat

/-- The length byte, just received, is one no telegram has (R14). -/
def badLength (bytes : List Byte) : Bool :=
  bytes.length == 2 &&
    (decide (lengthByte bytes < smallestTelegram) || decide (largestTelegram < lengthByte bytes))

/-- A byte stored in COLLECT (R14). -/
def State.collectByte (s : State) (byte : Byte) : State :=
  let bytes := s.lbi.rxBytes ++ [byte]
  if badLength bytes then { s with lbi := s.lbi.hunt }
  else if 2 ≤ bytes.length ∧ bytes.length = lengthByte bytes then s.completeTelegram bytes
  else { s with lbi := { s.lbi with rxBytes := bytes } }

/-- A byte at the receiving side (R14). -/
def State.receiveByte (s : State) (byte : Byte) (framingError : Bool) : State :=
  match s.lbi.rx with
  | .hunt => s
  | .armed =>
    if !framingError && byte == delimiter then
      { s with
        lbi :=
          { s.lbi with
            rx := .collect
            rxBytes := [byte]
            rxDriven := s.lbi.tx == .sending } }
    else { s with lbi := s.lbi.hunt }
  | .collect => if framingError then { s with lbi := s.lbi.hunt } else s.collectByte byte

/-- A byte on the medium: the idle time starts again (R1), and the receiving side takes it when it runs. -/
def State.mediumByte (s : State) (byte : Byte) (framingError : Bool) : State :=
  if s.rsc.runState == .offline then s
  else
    let s1 := { s with lbi := { s.lbi with idleTime := 0 } }
    if s1.receives then s1.receiveByte byte framingError else s1

/-- The medium has been idle for the idle gap (R14). -/
def State.idleGap (s : State) : State :=
  if s.receives then
    match s.lbi.rx with
    | .hunt | .collect => { s with lbi := { s.lbi.hunt with rx := .armed } }
    | .armed => s
  else s

/-! ### The meanings -/

/-- IDLE_GAP (R14). -/
def execIdleGap (s : State) : Host.Outcome State Fault Refusal := s.event State.idleGap

/-- ATTEMPT_START (R10). -/
def execAttemptStart (s : State) : Host.Outcome State Fault Refusal := s.event State.attemptStart

/-- ATTEMPT_SUCCEEDS (R10). -/
def execAttemptSucceeds (s : State) : Host.Outcome State Fault Refusal :=
  s.event State.attemptSucceeds

/-- ATTEMPT_LOST (R11). -/
def execAttemptLost (s : State) : Host.Outcome State Fault Refusal := s.event State.attemptLost

/-- BACKOFF_END (R11). -/
def execBackoffEnd (s : State) : Host.Outcome State Fault Refusal := s.event State.backoffEnd

/-- INVALID_TELEGRAM_DISCARD (R15). -/
def execInvalidTelegramDiscard (s : State) : Host.Outcome State Fault Refusal :=
  s.event State.discardTelegram

/-- STATE_TELEGRAM (R17). -/
def execStateTelegram (own : Bool) (t : StateTelegram) (s : State) :
    Host.Outcome State Fault Refusal :=
  s.event fun u => u.stateTelegram own t

/-- RECEIVED_BYTE (R14). -/
def execReceivedByte (byte : Byte) (framingError : Bool) (s : State) :
    Host.Outcome State Fault Refusal :=
  s.event fun t => t.mediumByte byte framingError

end Sys2Proof.Machine
end

