-- ==== Sys2Proof/Machine/MachineEvents.lean ====
section
/-! DEFINITION. The commands of the machine lines: samples, scale pulses and edges (chapters 3, 5, 8 and
10). -/

namespace Sys2Proof.Machine

/-- A rising edge of SCALE (R43). -/
def State.scalePulse (s : State) : State :=
  if s.rsc.runState != .offline && s.cfg.image.watchesScale && s.mfe.acceptsPulse then
    { s with mfe := s.mfe.pulse }
  else s

/-! ### TRAMP (R154 to R156) -/

/-- TRAMP is watched: by a CRUSHER, not in OFFLINE (R56, R57). -/
def State.watchesTramp (s : State) : Bool :=
  s.rsc.runState != .offline && s.cfg.image.role == .crusher

/-- A clearing starts: the count, the hold cause, and then the request (R154). -/
def State.startClearing (s : State) : State :=
  let s1 := { s with cwu := { s.cwu with attempts := 1 } }
  (s1.changeHold { s1.rsc.hold with tramp := true }).request .tramp

/-- What the CWU does with an active edge after raising TRAMP (R154 to R156). -/
def State.trampAct (s : State) : State :=
  if s.rsc.runState.inGroup then
    if s.cwu.attempts = 0 then
      if s.cfg.image.hasChain .tramp then s.startClearing else s.trip .trampUncleared
    else s.request .tramp
  else s

/-- An active edge of TRAMP (R154). -/
def State.trampActive (s : State) : State :=
  if s.watchesTramp then
    State.trampAct (State.raise { s with mfe := { s.mfe with trampIn := true } } .tramp)
  else s

/-- An inactive edge of TRAMP changes the accepted level and nothing else (R156). -/
def State.trampInactive (s : State) : State :=
  if s.watchesTramp then { s with mfe := { s.mfe with trampIn := false } } else s

/-! ### PULLCORD (R191) -/

/-- An active edge of PULLCORD trips in every run state but OFFLINE. -/
def State.pullcordActive (s : State) : State :=
  if s.rsc.runState != .offline then
    State.trip { s with mfe := { s.mfe with pullcordIn := true } } .pullcord
  else s

/-- An inactive edge of PULLCORD changes the accepted level and nothing else. -/
def State.pullcordInactive (s : State) : State :=
  if s.rsc.runState != .offline then { s with mfe := { s.mfe with pullcordIn := false } } else s

/-! ### RUN_FB (R89, R101) -/

/-- RUN_FB is watched: not in OFFLINE, and not by a BIN configured without feedback (R57). -/
def State.watchesFeedback (s : State) : Bool :=
  s.rsc.runState != .offline && !s.cfg.image.noFeedback

/-- An active edge of RUN_FB: in SPIN_UP the station enters the running group (R89). -/
def State.runFbActive (s : State) : State :=
  if s.watchesFeedback then
    let s1 := { s with mfe := { s.mfe with runFbIn := true } }
    if s1.rsc.runState == .starting && s1.rsc.subPhase == some .spinUp then s1.enterGroup else s1
  else s

/-- An inactive edge of RUN_FB: in the running group the station trips (R101). -/
def State.runFbInactive (s : State) : State :=
  if s.watchesFeedback then
    let s1 := { s with mfe := { s.mfe with runFbIn := false } }
    if s1.rsc.runState.inGroup then s1.trip .motorStopped else s1
  else s

/-! ### The meanings -/

/-- SAMPLE_EVENT (R38). -/
def execSampleEvent (channel : Channel) (count : BitVec 12) (s : State) :
    Host.Outcome State Fault Refusal :=
  s.event fun t => t.sample channel count.toNat

/-- SCALE_PULSE (R43). -/
def execScalePulse (s : State) : Host.Outcome State Fault Refusal := s.event State.scalePulse

/-- TRAMP_ACTIVE_EDGE (R154). -/
def execTrampActiveEdge (s : State) : Host.Outcome State Fault Refusal := s.event State.trampActive

/-- TRAMP_INACTIVE_EDGE (R156). -/
def execTrampInactiveEdge (s : State) : Host.Outcome State Fault Refusal :=
  s.event State.trampInactive

/-- PULLCORD_ACTIVE_EDGE (R191). -/
def execPullcordActiveEdge (s : State) : Host.Outcome State Fault Refusal :=
  s.event State.pullcordActive

/-- PULLCORD_INACTIVE_EDGE (R191). -/
def execPullcordInactiveEdge (s : State) : Host.Outcome State Fault Refusal :=
  s.event State.pullcordInactive

/-- RUN_FB_ACTIVE_EDGE (R89). -/
def execRunFbActiveEdge (s : State) : Host.Outcome State Fault Refusal := s.event State.runFbActive

/-- RUN_FB_INACTIVE_EDGE (R101). -/
def execRunFbInactiveEdge (s : State) : Host.Outcome State Fault Refusal :=
  s.event State.runFbInactive

end Sys2Proof.Machine
end

