-- ==== Sys2Proof/Machine/ResetEvents.lean ====
section
/-! DEFINITION. The resets, the end of an image load, and the failure of the crystal (chapter 11). -/

namespace Sys2Proof.Machine

/-- The reset that a kind is not. -/
def ResetKind.other : ResetKind → ResetKind
  | .powerOn => .pin
  | .pin => .powerOn

/-- One more reset is asserted: beside one that is, it is the other (R195; DEDUCED, log entry 37). -/
def ResetLines.assert : ResetLines → ResetLines
  | .released => .one
  | .one | .only _ | .both => .both

/-- The reset of a kind is released: of two the other is left, and one that is known to be the other stays
asserted (R195; DEDUCED, log entry 37). -/
def ResetLines.release (kind : ResetKind) : ResetLines → ResetLines
  | .released | .one => .released
  | .only left => if left = kind then .released else .only left
  | .both => .only kind.other

/-- The CFG after the release of a reset of a kind (R195, R200). The watch is that of a reset which arrived on the
internal clock (R202), also where the other reset was released before in the same hold (log entry 37). -/
def Cfg.afterReset (c : Cfg) (kind : ResetKind) : Cfg :=
  { Cfg.reset with
    lastReset := kind
    asserted := c.asserted.release kind
    restartWatch := c.clock == .internal || (c.held && c.restartWatch) }

/-- The CFG when a reset is asserted (R195); a watch of an earlier hold ends. -/
def Cfg.assertReset (c : Cfg) : Cfg :=
  { c with asserted := c.asserted.assert, restartWatch := c.held && c.restartWatch }

/-- The state after the release of a power-on reset (R195). The queue and the count of free values are
the model's own (log entries 3 and 19). -/
def State.powerOn (s : State) : State :=
  { State.reset with cfg := s.cfg.afterReset .powerOn, draws := s.draws, pending := s.pending }

/-- The CWU after a pin reset: the retained domain keeps its values (R171). -/
def Cwu.pinReset (c : Cwu) : Cwu :=
  { Cwu.reset with
    r0 := c.r0
    r0Set := c.r0Set
    ring := c.ring
    totalWear := c.totalWear
    hours := c.hours
    minutes := c.minutes
    sinceCal := c.sinceCal
    calNumber := c.calNumber
    due := false }

/-- The pending events after a pin reset: only LINER_WORN is kept (R193). -/
def Evu.pinReset (e : Evu) : Evu := ⟨e.events &&& EventSet.single .linerWorn⟩

/-- The state after the release of a pin reset (R195). -/
def State.pinned (s : State) : State :=
  { State.reset with
    cwu := s.cwu.pinReset
    evu := s.evu.pinReset
    cfg := s.cfg.afterReset .pin
    draws := s.draws
    pending := s.pending }

/-- A reset is asserted: the outputs take the values of R196, and no event is taken (R195). -/
def State.assertReset (s : State) : State :=
  { s with cfg := s.cfg.assertReset, pins := Pins.reset }

/-- READY is entered: the period timer and the sample time base start (R84). -/
def State.enterReady (s : State) : State :=
  State.changeRun
    { s with
      lbi := { s.lbi with periodTimer := .running 0 }
      mfe := { s.mfe with sampleBase := .running 0 } }
    .ready

/-- The load ends VALID: hand-over, READY, and on the internal clock the trip with cause CLOCK (R199,
R201, R202). -/
def State.loadValid (s : State) (i : Image) (records : List MoveRecord) : State :=
  let s1 := (s.handOver i records).enterReady
  match s1.cfg.clock with
  | .crystal => s1
  | .internal => s1.trip .clock

/-- The load ends INVALID (R197, R199). -/
def State.loadInvalid (s : State) : State := { s with cfg := { s.cfg with validity := .invalid } }

/-- The end of an image load, while one is in progress (R197). -/
def State.imageLoadEnd (s : State) (bytes : List Byte) : State :=
  match s.cfg.validity with
  | .loading =>
    match readImage bytes with
    | some r => s.loadValid r.1 r.2
    | none => s.loadInvalid
  | .valid | .invalid => s

/-- The crystal-watch count at which the crystal has failed (R200). -/
def crystalLimit : Nat := 16

/-- The failure of the crystal, while the watch runs (R200). One in the bit time of the release of a reset that
arrived on the internal clock is the crystal still absent of R202 (DESIGN CHOICE, log entry 33). -/
def State.crystalFails (s : State) : State :=
  match s.cfg.clock with
  | .crystal =>
    State.trip
      (State.raise
        { s with
          cfg :=
            { s.cfg with
              clock := .internal
              crystalCount := crystalLimit
              crystalMissed := s.cfg.restartWatch }
          lbi := s.lbi.stopSending.hunt }
        .clockFail)
      .clock
  | .internal => s

/-! ### The meanings -/

/-- POWER_ON_RESET (R195). -/
def execPowerOnReset (s : State) : Host.Outcome State Fault Refusal := .next s.powerOn

/-- PIN_RESET (R195). -/
def execPinReset (s : State) : Host.Outcome State Fault Refusal := .next s.pinned

/-- RESET_ASSERTED (R195). -/
def execResetAsserted (s : State) : Host.Outcome State Fault Refusal := .next s.assertReset

/-- IMAGE_LOAD_END (R197). -/
def execImageLoadEnd (bytes : List Byte) (s : State) : Host.Outcome State Fault Refusal :=
  s.event fun t => t.imageLoadEnd bytes

/-- CRYSTAL_FAILURE (R200). -/
def execCrystalFailure (s : State) : Host.Outcome State Fault Refusal := s.event State.crystalFails

end Sys2Proof.Machine
end

