-- ==== Sys2Proof/Machine/Allowance.lean ====
section
/-! DEFINITION. The allowance engine: the computation of each role, the limiting term and the feed command
(chapter 4). -/

namespace Sys2Proof.Machine

/-- The greatest allowance in t/h. -/
def allowanceLimit : Nat := 4000

/-- The downstream allowance (R64). -/
def State.downstreamAllowance (s : State) : Nat :=
  if s.cfg.image.terminal then s.cfg.image.aTerm
  else
    satNat allowanceLimit
      (((s.downstream.filter PeerEntry.isRunning).map PeerEntry.allowance).sum)

/-- The name of the downstream allowance (R64). -/
def State.downstreamTerm (s : State) : LimitTerm :=
  if s.cfg.image.terminal then .terminal else .downstream

/-- The name of the first candidate with the smallest value, `term` and `value` being the first so far
(R76). -/
def limiting (term : LimitTerm) (value : Nat) : List (LimitTerm × Nat) → LimitTerm
  | [] => term
  | (t, v) :: rest => if v < value then limiting t v rest else limiting term value rest

/-- The figure that REDUCE leaves (R70). -/
def reduced (feed : Feed) (rRed own : Nat) : Nat :=
  match feed with
  | .reduce => own * rRed / 1000
  | .none | .stop => own

/-- The candidate MOVE, only while REDUCE applies (R76). -/
def moveCandidate (feed : Feed) (own : Nat) : List (LimitTerm × Nat) :=
  match feed with
  | .reduce => [(.move, own)]
  | .none | .stop => []

/-! ### Crusher (R65 to R68) -/

/-- The gap term (R65). -/
def gapTerm (kc gap : Nat) : Nat := satNat allowanceLimit (kc * gap / 100)

/-- The power term (R66). -/
def powerTerm (pIdle pLim q load : Nat) : Nat :=
  if pIdle ≤ load then satNat allowanceLimit (q * pLim / load) else allowanceLimit

/-- The level term (R67). -/
def levelTerm (kl lSet q level : Nat) : Nat :=
  clampToNat allowanceLimit
    ((q : Int) + Int.tdiv ((kl : Int) * ((lSet : Int) - (level : Int))) 16)

/-- The gap that the allowance follows (R65). -/
def State.allowanceGap (s : State) : Nat := if s.mfe.gapValid then s.mfe.gap else s.mve.gSet

/-- A CRUSHER's allowance and limiting term (R68, R70, R76). -/
def State.computeCrusher (s : State) : Ale :=
  let i := s.cfg.image
  let cGap := gapTerm i.kc s.allowanceGap
  let cPow := powerTerm i.pIdle i.pLim s.mfe.q s.mfe.load
  let cLvl := levelTerm i.kl i.lSet s.mfe.q s.mfe.level
  let own := reduced s.mve.feed i.rRed (min cGap (min cPow cLvl))
  let dn := s.downstreamAllowance
  { s.ale with
    a := min own dn
    term :=
      limiting .gap cGap
        ([(.power, cPow), (.level, cLvl)] ++ moveCandidate s.mve.feed own ++
          [(s.downstreamTerm, dn)])
    supply := false }

/-! ### Feeder (R71 to R73) -/

/-- The cap term (R71). -/
def capTerm (fMax cap : Nat) : Nat := fMax * cap / 1000

/-- The supply limit applies (R72). -/
def State.supplyLow (s : State) : Bool :=
  match s.supplyBin with
  | none => false
  | some e =>
    match e.level with
    | none => false
    | some l => decide (l ≤ s.cfg.image.lLow)

/-! ### The feed command (R77 to R80) -/

/-- A command on its way through the steps, and the residue. -/
structure FeedStep where
  u : Nat
  residue : Nat
  deriving DecidableEq, Repr

/-- Step 2, division (R77). -/
def feedDivide (fMax a residue : Nat) : FeedStep :=
  let n := a * 1000 + residue
  ⟨n / fMax, n % fMax⟩

/-- Step 3, full speed (R78). -/
def feedFull (f : FeedStep) : FeedStep := if 1000 < f.u then ⟨1000, 0⟩ else f

/-- Step 4, minimum speed (R78). -/
def feedMinimum (uMin : Nat) (f : FeedStep) : FeedStep :=
  if 0 < f.u ∧ f.u < uMin then ⟨uMin, 0⟩ else f

/-- Step 5, the ramp (R79). -/
def feedRamp (uMin duUp uPrev : Nat) (f : FeedStep) : FeedStep :=
  let bound := max (uPrev + duUp) uMin
  if bound < f.u then ⟨bound, 0⟩ else f

/-- Step 6, the cap of an active RATE_FOR record (R80). -/
def feedRate (uMin : Nat) (cap : Option Nat) (f : FeedStep) : FeedStep :=
  match cap with
  | none => f
  | some c => if c < f.u then if c < uMin then ⟨0, 0⟩ else ⟨c, 0⟩ else f

/-- The feed command of a FEEDER for the allowance `a` (R77). -/
def feedCommand (i : Image) (cap : Option Nat) (uPrev a residue : Nat) : FeedStep :=
  if a = 0 then ⟨0, 0⟩
  else
    feedRate i.uMin cap
      (feedRamp i.uMin i.duUp uPrev (feedMinimum i.uMin (feedFull (feedDivide i.fMax a residue))))

/-- The cap of the active record when it is a RATE_FOR (R80). -/
def Mve.rateCap (m : Mve) : Option Nat :=
  match m.active with
  | none => none
  | some c =>
    match c.record.kind with
    | .rateFor => some c.record.argument.toNat
    | .gapTo | .gapBy | .touch | .dwell => none

/-- A FEEDER's allowance, limiting term, supply flag and feed command (R71 to R73, R76, R77). -/
def State.computeFeeder (s : State) : Ale :=
  let i := s.cfg.image
  let cap := capTerm i.fMax s.ale.cap
  let low := s.supplyLow
  let own := reduced s.mve.feed i.rRed (if low then 0 else cap)
  let dn := s.downstreamAllowance
  let a := min own dn
  let f := feedCommand i s.mve.rateCap s.ale.u a s.ale.residue
  { s.ale with
    a := a
    term :=
      limiting .cap cap
        ((if low then [(.supply, 0)] else []) ++ moveCandidate s.mve.feed own ++
          [(s.downstreamTerm, dn)])
    u := f.u
    residue := f.residue
    supply := low }

/-! ### Bin (R74, R75) -/

/-- The space rate (R74). -/
def spaceRate (lTgt mBin tH level : Nat) : Int :=
  Int.tdiv (Int.tdiv (((lTgt : Int) - (level : Int)) * (mBin : Int)) 1000 * 3600) (tH : Int)

/-- A BIN's allowance and limiting term (R70, R75). -/
def State.computeBin (s : State) : Ale :=
  let i := s.cfg.image
  let rate := spaceRate i.lTgt i.mBin i.tH s.mfe.level
  let sum := (s.downstreamAllowance : Int) + rate
  let a := clampToNat allowanceLimit sum
  let own := reduced s.mve.feed i.rRed a
  { s.ale with
    a := own
    term :=
      if own < a then .move else if decide (rate < 0) || decide (sum < 0) then .space else .downstream
    supply := false }

/-! ### The period action (R60) -/

/-- The computation of the station's role (R60); with feed condition STOP its results are those of
HOLDING (R69). -/
def State.compute (s : State) : Ale :=
  match s.mve.feed with
  | .stop => s.ale.zero
  | .none | .reduce =>
    match s.cfg.image.role with
    | .crusher => s.computeCrusher
    | .feeder => s.computeFeeder
    | .bin => s.computeBin

/-- What the ALE does at a period expiry (R60). -/
def State.aleResult (s : State) : Ale :=
  match s.rsc.runState with
  | .running => s.compute
  | .holding => s.ale.zero
  | .offline | .ready | .starting | .stopping | .tripped => s.ale

/-- The ALE's period action, which a REDUCE record in SETTLE waits for (R60, R128). -/
def State.alePeriod (s : State) : State :=
  { s with ale := s.aleResult, mve := { s.mve with aleActed := true } }

end Sys2Proof.Machine
end

