-- ==== Sys2Proof/Machine/TimerEvents.lean ====
section
/-! DEFINITION. The commands of the part's own timers: the period expiry and the expiries of the other
timers. An expiry acts only while its timer runs (log entry 9). -/

namespace Sys2Proof.Machine

/-! ### The LBI's part of a period expiry (R8, R16, R18) -/

/-- The period's telegram (R8). -/
def Lbi.periodTelegram (l : Lbi) : Lbi :=
  match l.tx with
  | .idle => { l with tx := .waitIdle, attempts := 0 }
  | .waitIdle | .backoff => { l with attempts := 0 }
  | .sending => l

/-- The silent-period count at which BUS_SILENT is raised (R18). -/
def silentLimit : Nat := 8

/-- This expiry brings the silent-period count to 8 (R18). -/
def Lbi.fallsSilent (l : Lbi) : Bool := l.silent + 1 == silentLimit

/-- The period's telegram and the counts (R8, R16, R18). -/
def State.lbiCounts (s : State) : State :=
  let l := if s.sends then s.lbi.periodTelegram else s.lbi
  { s with
    lbi :=
      { l with silent := satNat silentLimit (l.silent + 1), dupQuiet := satNat 2 (l.dupQuiet + 1) } }

/-- The LBI's part of a period expiry, with BUS_SILENT and the trip it may call for (R18, R189). -/
def State.lbiPeriod (s : State) : State :=
  if s.lbi.fallsSilent then (s.lbiCounts.raise .busSilent).tripIfSelected .busSilent
  else s.lbiCounts

/-! ### The period expiry (R6) -/

/-- What acts on a period expiry; the order is free (log entry 3). -/
inductive ExpiryPart where
  | lbi | ageing | measure | allowance | runState
  deriving DecidableEq, Repr

/-- One part. -/
def State.expiryPart (s : State) : ExpiryPart → State
  | .lbi => s.lbiPeriod
  | .ageing => s.afterTable { s with peers := agePeers s.peers }
  | .measure => s.mfePeriod
  | .allowance => s.alePeriod
  | .runState => s.evaluateLine

/-- All parts. -/
def expiryParts : List ExpiryPart := [.lbi, .ageing, .measure, .allowance, .runState]

/-- A period expiry with its parts in a given order, and the REDUCE settle test on the values that stand
once all are taken (R128; log entry 5). An attempt that starts at once, on a medium already idle (R10), is
the command ATTEMPT_START after the whole expiry, so its contents hold the allowance of this expiry's
computation, where R9 and R63 leave the order open (DESIGN CHOICE, log entry 30). -/
def State.periodExpiryIn (s : State) (order : List ExpiryPart) : State :=
  let s1 := { s with lbi := { s.lbi with periodTimer := .running 0 } }
  (order.foldl State.expiryPart s1).reduceTest

/-- A period expiry while the period timer runs (R6). -/
def State.periodExpiry (s : State) : State :=
  if s.lbi.periodTimer.isRunning then
    s.drawn.periodExpiryIn (arrange (Config.expiryOrder s.draws) expiryParts)
  else s

/-! ### The other expiries -/

/-- The start limit timer expires in WAIT_DOWNSTREAM (R88). -/
def State.startLimitExpiry (s : State) : State :=
  if s.rsc.startTimer.isRunning && s.rsc.runState == .starting &&
      s.rsc.subPhase == some .waitDownstream then
    let s1 := s.changeRun .ready
    State.raise { s1 with rsc := { s1.rsc with subPhase := none, startTimer := .stopped } }
      .startTimeout
  else s

/-- The spin-up timer expires in SPIN_UP (R89). -/
def State.spinUpExpiry (s : State) : State :=
  if s.rsc.spinTimer.isRunning && s.rsc.runState == .starting && s.rsc.subPhase == some .spinUp then
    s.trip .noFeedback
  else s

/-- The interlock timer expires (R97). -/
def State.interlockExpiry (s : State) : State :=
  if s.rsc.interlockTimer.isRunning && s.rsc.runState.isTurning then
    s.leaveGroup.raise .interlockStop
  else s

/-- The drain timer expires (R100). -/
def State.drainExpiry (s : State) : State :=
  if s.rsc.drainTimer.isRunning && s.rsc.runState == .stopping then s.leaveGroup else s

/-- The settle timer expires (R129). -/
def State.settleTimerExpiry (s : State) : State :=
  if s.mve.settleTimer.isRunning then s.settleExpired else s

/-- The record timer expires (R133). -/
def State.recordTimerExpiry (s : State) : State :=
  if s.mve.recordTimer.isRunning then s.recordExpired else s

/-- The minute tick that brings minutes since calibration to the interval (R169). -/
def State.calibrationDue (s : State) : State :=
  let s1 := { s with cwu := { s.cwu with due := true } }
  if s1.scheduleAllowed then s1.request .schedule else s1

/-- A minute tick (R168, R169). -/
def State.minuteTick (s : State) : State :=
  let s1 := { s with cwu := s.cwu.minuteTick }
  if s.cwu.sinceCal + 1 = s.cfg.image.calInterval then s1.calibrationDue else s1

/-- The seconds timer expires and starts again (R168). -/
def State.secondsExpiry (s : State) : State :=
  if s.cwu.secondsTimer.isRunning then
    if s.cwu.seconds + 1 = 60 then
      State.minuteTick { s with cwu := { s.cwu with secondsTimer := .running 0, seconds := 0 } }
    else { s with cwu := { s.cwu with secondsTimer := .running 0, seconds := s.cwu.seconds + 1 } }
  else s

/-! ### The meanings -/

/-- PERIOD_EXPIRY (R6). -/
def execPeriodExpiry (s : State) : Host.Outcome State Fault Refusal := s.event State.periodExpiry

/-- START_LIMIT_EXPIRY (R88). -/
def execStartLimitExpiry (s : State) : Host.Outcome State Fault Refusal :=
  s.event State.startLimitExpiry

/-- SPIN_UP_EXPIRY (R89). -/
def execSpinUpExpiry (s : State) : Host.Outcome State Fault Refusal := s.event State.spinUpExpiry

/-- INTERLOCK_EXPIRY (R97). -/
def execInterlockExpiry (s : State) : Host.Outcome State Fault Refusal :=
  s.event State.interlockExpiry

/-- DRAIN_EXPIRY (R100). -/
def execDrainExpiry (s : State) : Host.Outcome State Fault Refusal := s.event State.drainExpiry

/-- SETTLE_TIMER_EXPIRY (R129). -/
def execSettleTimerExpiry (s : State) : Host.Outcome State Fault Refusal :=
  s.event State.settleTimerExpiry

/-- RECORD_TIMER_EXPIRY (R133). -/
def execRecordTimerExpiry (s : State) : Host.Outcome State Fault Refusal :=
  s.event State.recordTimerExpiry

/-- REMAINING_TIME_EXPIRY (R135). -/
def execRemainingTimeExpiry (s : State) : Host.Outcome State Fault Refusal :=
  s.event State.remainingExpired

/-- SECONDS_TIMER_EXPIRY (R168). -/
def execSecondsTimerExpiry (s : State) : Host.Outcome State Fault Refusal :=
  s.event State.secondsExpiry

end Sys2Proof.Machine
end

