-- ==== Sys2Proof/Machine/Dispatch.lean ====
section
/-! DEFINITION. Which meaning each command has. -/

namespace Sys2Proof.Machine

/-- A command's effect on everything but the queue. -/
def exec (i : Instr) (s : State) : Host.Outcome State Fault Refusal :=
  match i with
  | .powerOnReset => Sys2Proof.Machine.execPowerOnReset s
  | .pinReset => Sys2Proof.Machine.execPinReset s
  | .imageLoadEnd bytes => Sys2Proof.Machine.execImageLoadEnd bytes s
  | .crystalFailure => Sys2Proof.Machine.execCrystalFailure s
  | .periodExpiry => Sys2Proof.Machine.execPeriodExpiry s
  | .idleGap => Sys2Proof.Machine.execIdleGap s
  | .attemptStart => Sys2Proof.Machine.execAttemptStart s
  | .attemptSucceeds => Sys2Proof.Machine.execAttemptSucceeds s
  | .attemptLost => Sys2Proof.Machine.execAttemptLost s
  | .backoffEnd => Sys2Proof.Machine.execBackoffEnd s
  | .invalidTelegramDiscard => Sys2Proof.Machine.execInvalidTelegramDiscard s
  | .stateTelegram own t => Sys2Proof.Machine.execStateTelegram own t s
  | .unknownKind head kind arg => Sys2Proof.Machine.execUnknownKind head kind arg s
  | .startLine head => Sys2Proof.Machine.execStartLine head s
  | .stopLine head => Sys2Proof.Machine.execStopLine head s
  | .hold head => Sys2Proof.Machine.execHold head s
  | .release head => Sys2Proof.Machine.execRelease head s
  | .clearTrip head => Sys2Proof.Machine.execClearTrip head s
  | .setGap head arg => Sys2Proof.Machine.execSetGap head arg s
  | .setCap head arg => Sys2Proof.Machine.execSetCap head arg s
  | .calibrate head => Sys2Proof.Machine.execCalibrate head s
  | .moveRetry head => Sys2Proof.Machine.execMoveRetry head s
  | .moveDiscard head => Sys2Proof.Machine.execMoveDiscard head s
  | .restoreScale head => Sys2Proof.Machine.execRestoreScale head s
  | .readCal head arg => Sys2Proof.Machine.execReadCal head arg s
  | .linerChanged head => Sys2Proof.Machine.execLinerChanged head s
  | .ackEvents head kinds => Sys2Proof.Machine.execAckEvents head kinds s
  | .sampleEvent channel count => Sys2Proof.Machine.execSampleEvent channel count s
  | .scalePulse => Sys2Proof.Machine.execScalePulse s
  | .trampActiveEdge => Sys2Proof.Machine.execTrampActiveEdge s
  | .trampInactiveEdge => Sys2Proof.Machine.execTrampInactiveEdge s
  | .pullcordActiveEdge => Sys2Proof.Machine.execPullcordActiveEdge s
  | .pullcordInactiveEdge => Sys2Proof.Machine.execPullcordInactiveEdge s
  | .runFbActiveEdge => Sys2Proof.Machine.execRunFbActiveEdge s
  | .runFbInactiveEdge => Sys2Proof.Machine.execRunFbInactiveEdge s
  | .startLimitExpiry => Sys2Proof.Machine.execStartLimitExpiry s
  | .spinUpExpiry => Sys2Proof.Machine.execSpinUpExpiry s
  | .interlockExpiry => Sys2Proof.Machine.execInterlockExpiry s
  | .drainExpiry => Sys2Proof.Machine.execDrainExpiry s
  | .settleTimerExpiry => Sys2Proof.Machine.execSettleTimerExpiry s
  | .recordTimerExpiry => Sys2Proof.Machine.execRecordTimerExpiry s
  | .remainingTimeExpiry => Sys2Proof.Machine.execRemainingTimeExpiry s
  | .secondsTimerExpiry => Sys2Proof.Machine.execSecondsTimerExpiry s
  | .receivedByte byte framingError => Sys2Proof.Machine.execReceivedByte byte framingError s
  | .resetAsserted => Sys2Proof.Machine.execResetAsserted s

end Sys2Proof.Machine
end

