-- ==== Sys2Proof/Safety.lean ====
section
/-! DEFINITION. What a sound state of the part is: the invariants that every step keeps, in the terms the
statements use, and the parts of an order command. -/

namespace Sys2Proof

/-- The release of a reset, or its assertion: what a held part still takes (R195). -/
def Instr.isReset : Instr → Bool
  | .powerOnReset | .pinReset | .resetAsserted => true
  | .imageLoadEnd _ | .crystalFailure | .periodExpiry | .idleGap | .attemptStart | .attemptSucceeds
  | .attemptLost | .backoffEnd | .invalidTelegramDiscard | .stateTelegram _ _ | .unknownKind _ _ _
  | .startLine _ | .stopLine _ | .hold _ | .release _ | .clearTrip _ | .setGap _ _ | .setCap _ _
  | .calibrate _ | .moveRetry _ | .moveDiscard _ | .restoreScale _ | .readCal _ _
  | .linerChanged _ | .ackEvents _ _ | .sampleEvent _ _ | .scalePulse | .trampActiveEdge
  | .trampInactiveEdge | .pullcordActiveEdge | .pullcordInactiveEdge | .runFbActiveEdge
  | .runFbInactiveEdge | .startLimitExpiry | .spinUpExpiry | .interlockExpiry | .drainExpiry
  | .settleTimerExpiry | .recordTimerExpiry | .remainingTimeExpiry | .secondsTimerExpiry
  | .receivedByte _ _ => false

end Sys2Proof

namespace Sys2Proof.Machine

/-! ### Orders -/

/-- The head, the kind code and the owner's answer of an order command. -/
structure OrderParts where
  head : OrderHead
  kind : Byte
  act : State → Answered

/-- The parts of the fourteen order commands; UNKNOWN_KIND carries its own kind code. -/
def orderParts : Instr → Option OrderParts
  | .startLine h => some ⟨h, 1#8, State.orderStartLine⟩
  | .stopLine h => some ⟨h, 2#8, State.orderStopLine⟩
  | .hold h => some ⟨h, 3#8, State.orderHold⟩
  | .release h => some ⟨h, 4#8, State.orderRelease⟩
  | .clearTrip h => some ⟨h, 5#8, State.orderClearTrip⟩
  | .setGap h a => some ⟨h, 6#8, fun s => s.orderSetGap a.toNat⟩
  | .setCap h a => some ⟨h, 7#8, fun s => s.orderSetCap a.toNat⟩
  | .calibrate h => some ⟨h, 8#8, State.orderCalibrate⟩
  | .moveRetry h => some ⟨h, 9#8, State.orderMoveRetry⟩
  | .moveDiscard h => some ⟨h, 10#8, State.orderMoveDiscard⟩
  | .restoreScale h => some ⟨h, 11#8, State.orderRestoreScale⟩
  | .readCal h a => some ⟨h, 12#8, fun s => s.orderReadCal a.toNat⟩
  | .linerChanged h => some ⟨h, 13#8, State.orderLinerChanged⟩
  | .ackEvents h k => some ⟨h, 14#8, fun s => s.orderAckEvents k⟩
  | .unknownKind h k a =>
    match Order.ofWire k a with
    | some o => some ⟨h, k, fun s => s.give o⟩
    | none => some ⟨h, k, State.answerUnknown⟩
  | .powerOnReset | .pinReset | .imageLoadEnd _ | .crystalFailure | .periodExpiry | .idleGap
  | .attemptStart | .attemptSucceeds | .attemptLost | .backoffEnd | .invalidTelegramDiscard
  | .stateTelegram _ _ | .sampleEvent _ _ | .scalePulse | .trampActiveEdge | .trampInactiveEdge
  | .pullcordActiveEdge | .pullcordInactiveEdge | .runFbActiveEdge | .runFbInactiveEdge
  | .startLimitExpiry | .spinUpExpiry | .interlockExpiry | .drainExpiry | .settleTimerExpiry
  | .recordTimerExpiry | .remainingTimeExpiry | .secondsTimerExpiry | .receivedByte _ _
  | .resetAsserted => none

/-- The station takes the order: no reset is asserted, the receiving side runs, the order is addressed to
the station, and a panel of the station sent it (R14, R174, R175). -/
def State.takes (s : State) (h : OrderHead) : Prop :=
  s.cfg.held = false ∧ s.receives = true ∧ s.addressed h.target = true ∧ s.permitted h.source = true

/-- The state with an order just received (R14, R18). -/
def State.gotOrder (s : State) : State := s.tookTelegram.heard

/-- The outcome of an answered order (R177). -/
def State.answered (s : State) (h : OrderHead) (kind : Byte) (r : OrderResult) :
    Host.Outcome State Fault Refusal :=
  .next (s.setEcho h.tag kind r).drive

/-! ### Frames -/

/-- The blocks that no move, hold or trip touches: the peer table, the order echo, the configuration, and
the model's own queue and count; the outputs follow at the end of the command. -/
structure State.Keeps (s t : State) : Prop where
  peers : t.peers = s.peers
  echo : t.echo = s.echo
  cfg : t.cfg = s.cfg
  pins : t.pins = s.pins
  draws : t.draws = s.draws
  pending : t.pending = s.pending

/-- Everything the CWU keeps through a hold, a stop or a trip: all but the attempt count, the contact
counts and the seconds timer (R158, R160, R168). -/
structure Cwu.SameRecords (c d : Cwu) : Prop where
  r0 : d.r0 = c.r0
  r0Set : d.r0Set = c.r0Set
  calNumber : d.calNumber = c.calNumber
  ring : d.ring = c.ring
  totalWear : d.totalWear = c.totalWear
  seconds : d.seconds = c.seconds
  sinceCal : d.sinceCal = c.sinceCal
  hours : d.hours = c.hours
  minutes : d.minutes = c.minutes
  due : d.due = c.due
  selection : d.selection = c.selection

/-- Everything the MVE keeps when chains are discarded: the table, g_set, the tokens and a pending
ORDER_GAP (R124, R141, R150). -/
structure Mve.SameTable (m n : Mve) : Prop where
  table : n.table = m.table
  gSet : n.gSet = m.gSet
  tokenHigh : n.tokenHigh = m.tokenHigh
  tokenLow : n.tokenLow = m.tokenLow
  orderGap : n.requests.orderGap = m.requests.orderGap

/-! ### Invariants -/

/-- The station is OFFLINE exactly until a load has ended VALID (R84, R197). -/
def State.loadCoherent (s : State) : Prop :=
  s.rsc.runState = .offline ↔ s.cfg.validity ≠ .valid

/-- The RSC's items go together (R83, R91, R92). -/
def Rsc.coherent (r : Rsc) : Prop :=
  (r.subPhase.isSome ↔ r.runState = .starting) ∧
  (r.tripCause.isSome ↔ r.runState = .tripped) ∧
  (r.runState.inGroup = false → r.hold = HoldSet.empty) ∧
  (r.runState = .running → r.hold = HoldSet.empty) ∧
  (r.runState = .holding → r.hold ≠ HoldSet.empty)

/-- The ALE's results stand at zero but in RUNNING (R60, R61, R81). -/
def State.idleFeed (s : State) : Prop :=
  s.rsc.runState ≠ .running →
    s.ale.a = 0 ∧ s.ale.term = .hold ∧ s.ale.u = 0 ∧ s.ale.residue = 0 ∧ s.ale.supply = false

/-- Outside the running group no chain is in progress and no clearing runs (R150, R151, R158). -/
def State.movesInGroup (s : State) : Prop :=
  s.rsc.runState.inGroup = false →
    s.mve.active = none ∧ s.mve.stack = [] ∧ s.cwu.attempts = 0

/-- In the running group the causes of the MVE and the CWU say what their owners' state says (R136,
R146, and spec/08 section 8.2). -/
def State.causesFollow (s : State) : Prop :=
  s.rsc.runState.inGroup = true →
    s.rsc.hold.move = (s.mve.feed == .stop) ∧ s.rsc.hold.moveFault = s.mve.parked.isSome ∧
    s.rsc.hold.tramp = (s.cwu.attempts != 0)

/-- The watch of a reset on the internal clock is over by the end of a load, and a station whose reset did not
find the crystal is on the internal clock and, once loaded, TRIPPED with cause CLOCK (R201, R202). -/
def State.restartCoherent (s : State) : Prop :=
  (s.cfg.restartWatch = true → s.cfg.validity ≠ .valid) ∧
  (s.cfg.crystalMissed = true →
    s.cfg.clock = .internal ∧
    (s.cfg.validity = .valid → s.rsc.runState = .tripped ∧ s.rsc.tripCause = some .clock))

/-- Run state, hold set, results, moves and clock fit together. -/
def State.coherent (s : State) : Prop :=
  s.loadCoherent ∧ s.rsc.coherent ∧ s.idleFeed ∧ s.movesInGroup ∧ s.causesFollow ∧
    s.restartCoherent

/-- The suspension stack rises strictly in priority and stays below the active chain; a parked fault
lies above the stack, below priority 3, and leaves room for a chain of priority 3 only (R139, R140,
R146, R148). -/
def Mve.ordered (m : Mve) : Prop :=
  m.stack.Pairwise (fun a b => a.requester.priority < b.requester.priority) ∧
  (∀ b ∈ m.stack, b.requester.priority < 3) ∧
  (∀ c ∈ m.active, ∀ b ∈ m.stack, b.requester.priority < c.requester.priority) ∧
  (∀ p ∈ m.parked, p.requester.priority < 3 ∧
    (∀ b ∈ m.stack, b.requester.priority < p.requester.priority) ∧
    ∀ c ∈ m.active, c.requester.priority = 3)

/-- Each context has the status of its place (R109). -/
def Mve.statusOk (m : Mve) : Prop :=
  (∀ c ∈ m.active, c.status = .new) ∧ (∀ b ∈ m.stack, b.status = .suspended) ∧
  (∀ p ∈ m.parked, ∃ f, p.status = .fault f)

/-- The counts of a context stay in their ranges (R113, R122, R132). -/
def Context.countsOk (limit : Nat) (c : Context) : Prop :=
  c.executed ≤ limit ∧ c.redrives ≤ 2 ∧ ∀ n, c.phase = .verify n → n ≤ 1

/-- The counts of every context stay in their ranges. -/
def Mve.countsOk (m : Mve) : Prop :=
  (∀ c ∈ m.active, c.countsOk 63) ∧ (∀ b ∈ m.stack, b.countsOk 63) ∧ (∀ p ∈ m.parked, p.countsOk 64)

/-- The peer table (R20, R22): ascending, at most 16 entries, none of the station's own number, ages
below 64, and empty in OFFLINE (R36). -/
def State.peersOk (s : State) : Prop :=
  s.loadCoherent ∧
  s.peers.Pairwise (fun a b => a.number < b.number) ∧ s.peers.length ≤ 16 ∧
  (∀ e ∈ s.peers, e.number ≠ s.cfg.image.number ∧ e.age < 64) ∧
  (s.rsc.runState = .offline → s.peers = [])

/-- The sending side is idle whenever it does not run, and the transmit-inhibit flag is set only in
TRIPPED (R7, R13). -/
def State.sendingOk (s : State) : Prop :=
  (s.sends = false → s.lbi.tx = .idle ∧ s.lbi.attempts = 0 ∧ s.lbi.earlyPending = false) ∧
  (s.lbi.inhibit = true → s.rsc.runState = .tripped) ∧ s.lbi.attempts ≤ 3 ∧
  (s.lbi.tx = .sending → s.lbi.contents.isSome)

/-- The receiving side holds bytes only in COLLECT, starting with the delimiter; its length byte, once
stored, is one that a telegram has, and fewer bytes are stored than it says. The side hunts whenever it
does not run (R14). -/
def State.receivingOk (s : State) : Prop :=
  (s.receives = false → s.lbi.rx = .hunt) ∧
  (s.lbi.rx ≠ .collect → s.lbi.rxBytes = []) ∧
  (s.lbi.rx = .collect →
    s.lbi.rxBytes.head? = some delimiter ∧
    (2 ≤ s.lbi.rxBytes.length →
      10 ≤ lengthByte s.lbi.rxBytes ∧ lengthByte s.lbi.rxBytes ≤ 48 ∧
      s.lbi.rxBytes.length < lengthByte s.lbi.rxBytes))

/-- The stores have their sizes (R44, R106, R165, R167). -/
def State.storesOk (s : State) : Prop :=
  s.mfe.window.length = 16 ∧ s.mve.table.length = 32 ∧ s.cwu.ring.length ≤ 8 ∧
  s.cwu.selection ≤ 7 ∧ (s.cwu.ring ≠ [] → s.cwu.selection < s.cwu.ring.length)

/-- The configured values are in range, and g_set and the order slot agree within the limits (R110,
R198). -/
def State.gapOk (s : State) : Prop :=
  s.loadCoherent ∧ s.cfg.image.ok = true ∧
  s.cfg.image.gMin ≤ s.mve.gSet ∧ s.mve.gSet ≤ s.cfg.image.gMax ∧
  (s.cfg.validity = .valid → s.mve.table.head? = some (orderRecord s.cfg.image s.mve.gSet))

/-- The feed command is 0 or lies within u_min..1000, and the residue below F_max (R59, R81). -/
def State.feedOk (s : State) : Prop :=
  s.loadCoherent ∧ s.cfg.image.ok = true ∧ s.idleFeed ∧ s.ale.cap ≤ 1000 ∧ s.ale.a ≤ 4000 ∧
  (s.ale.u = 0 ∨ (s.cfg.image.uMin ≤ s.ale.u ∧ s.ale.u ≤ 1000)) ∧
  s.ale.residue < s.cfg.image.fMax

/-- The outputs show the state (R85, R134, R188, R192, R196, R202). -/
def State.pinsOk (s : State) : Prop := s.pins = s.outputs

end Sys2Proof.Machine
end

