-- ==== Sys2Proof/WellFormed.lean ====
section
/-! DEFINITION. Which commands the outside can really send. A command that is not well formed still has
a meaning (log entry 9); these checks say what the operands stand for. -/

namespace Sys2Proof

/-- The number of bytes the CFG reads, taken from the header it reads first (R197, step 1). -/
def imageReadLength (bytes : List Byte) : Nat :=
  max 4 ((bytes.getD 2 255#8).toNat * 256 + (bytes.getD 3 255#8).toNat)

/-- The kind code names one of the fourteen kinds, and the argument is present exactly when that
kind takes one (R176). -/
def orderFormOk (kind : Byte) (arg : Option (BitVec 24)) : Bool :=
  let k := kind.toNat
  let takes := k == 6 || k == 7 || k == 12 || k == 14
  decide (1 ≤ k) && decide (k ≤ 14) && (takes == arg.isSome)

/-- The operands are ones that the row stands for. -/
def Instr.wellFormed : Instr → Bool
  | .imageLoadEnd bytes => bytes.length == imageReadLength bytes
  | .stateTelegram own t => !own || (decide (1 ≤ t.source.toNat) && decide (t.source.toNat ≤ 30))
  | .unknownKind _ kind arg => !orderFormOk kind arg
  | .powerOnReset | .pinReset | .crystalFailure | .periodExpiry | .idleGap | .attemptStart
  | .attemptSucceeds | .attemptLost | .backoffEnd | .invalidTelegramDiscard | .startLine _
  | .stopLine _ | .hold _ | .release _ | .clearTrip _ | .setGap _ _ | .setCap _ _ | .calibrate _
  | .moveRetry _ | .moveDiscard _ | .restoreScale _ | .readCal _ _ | .linerChanged _
  | .ackEvents _ _ | .sampleEvent _ _ | .scalePulse | .trampActiveEdge | .trampInactiveEdge
  | .pullcordActiveEdge | .pullcordInactiveEdge | .runFbActiveEdge | .runFbInactiveEdge
  | .startLimitExpiry | .spinUpExpiry | .interlockExpiry | .drainExpiry | .settleTimerExpiry
  | .recordTimerExpiry | .remainingTimeExpiry | .secondsTimerExpiry | .receivedByte _ _
  | .resetAsserted => true

end Sys2Proof
end

