-- ==== Sys2Proof/Certificates/Slice0/Obligations.lean ====
section
/-! DEFINITION. The statements for the provers. -/

open Sys2Proof Sys2Proof.Machine

/-! ### Steps and the queue -/

/-- The command at the front of the queue is what a step runs, on the state with the queue's rest. -/
def Obligations.StepRunsFrontCommand : Prop :=
  ∀ (s : State) (c : Instr) (rest : List Instr), s.pending = c :: rest →
    step s = exec c { s with pending := rest }

/-- With no command waiting one bit time passes: every running timer goes on by one, the sample time base
starts again after 50 ms, the time since a scale pulse is held up to 100 us, the commands that are queued are
exactly those that fall due, each once, the watch that follows a reset on the internal clock is over, a free
value is used where there are two or more of them, and nothing else changes. Where an idle measurement of the
medium would be complete, a free value says whether a start bit has been seen in it: then nothing of the bus
falls due and the measurement starts again (R1, R6, R10, R11, R14, R38, R43, R83, R125, R135, R168, R202; the
model's choices: log entries 6, 7, 8, 33, 35 and 36). -/
def Obligations.EmptyQueuePassesOneBitTime : Prop :=
  ∀ s : State, s.pending = [] →
    let i := s.cfg.image
    let passed (t : Timer) (limit : Nat) : Prop := ∃ e, t = .running e ∧ limit ≤ e + 1
    let idle := if s.lbi.tx = .sending then 0 else min 760 (s.lbi.idleTime + 1)
    let timeout := (s.mve.active.map fun c => c.record.timeout).getD 0
    let complete :=
      idle = 40 ∨ (s.lbi.tx = .waitIdle ∧ 40 ≤ idle) ∨
        (s.lbi.tx = .backoff ∧ 40 + i.number * 24 ≤ idle)
    let busy := complete ∧ Config.startBitSeen s.draws = true
    let due (c : Instr) : Prop :=
      (c = .periodExpiry ∧ passed s.lbi.periodTimer ((i.tB + i.number % 8 * 2) * 250)) ∨
      (c = .startLimitExpiry ∧ passed s.rsc.startTimer (i.startLimit * 250000)) ∨
      (c = .spinUpExpiry ∧ passed s.rsc.spinTimer (i.spinUpLimit * 250000)) ∨
      (c = .interlockExpiry ∧ passed s.rsc.interlockTimer (i.interlockLimit * 250000)) ∨
      (c = .drainExpiry ∧ passed s.rsc.drainTimer (i.drainTime * 250000)) ∨
      (c = .settleTimerExpiry ∧ passed s.mve.settleTimer (i.settleLimit * 250000)) ∨
      (c = .recordTimerExpiry ∧ passed s.mve.recordTimer (timeout * 250000)) ∨
      (c = .remainingTimeExpiry ∧
        (s.mve.active.any fun a => a.work == .timed 0 || a.work == .timed 1) = true) ∨
      (c = .secondsTimerExpiry ∧ passed s.cwu.secondsTimer 250000) ∨
      (¬busy ∧
        ((c = .idleGap ∧ idle = 40) ∨
        (c = .attemptStart ∧ s.lbi.tx = .waitIdle ∧ 40 ≤ idle) ∨
        (c = .backoffEnd ∧ s.lbi.tx = .backoff ∧ 40 + i.number * 24 ≤ idle)))
    step s = .next s.tick ∧
    (s.cfg.held = true → s.tick = s) ∧
    (s.cfg.held = false → s.rsc.runState = .offline →
      s.tick = { s with cfg := { s.cfg with restartWatch := false } }) ∧
    (s.cfg.held = false → s.rsc.runState ≠ .offline →
      (∀ c, c ∈ s.tick.pending ↔ due c) ∧ s.tick.pending.Nodup ∧
      s.tick.draws =
        s.draws + (if complete then 1 else 0) + (if s.tick.pending.length ≤ 1 then 0 else 1) ∧
      (s.tick.peers = s.peers ∧ s.tick.ale = s.ale ∧ s.tick.echo = s.echo ∧ s.tick.evu = s.evu ∧
      s.tick.cfg = { s.cfg with restartWatch := false } ∧ s.tick.pins = s.pins ∧
      s.tick.mfe =
        { s.mfe with
          sampleBase := s.mfe.sampleBase.tickBase
          pulseTimer := s.mfe.pulseTimer.tickPulse } ∧
      s.tick.lbi =
        { s.lbi with
          periodTimer := s.lbi.periodTimer.tick
          idleTime := if busy then 0 else idle } ∧
      s.tick.rsc =
        { s.rsc with
          startTimer := s.rsc.startTimer.tick
          spinTimer := s.rsc.spinTimer.tick
          interlockTimer := s.rsc.interlockTimer.tick
          drainTimer := s.rsc.drainTimer.tick } ∧
      s.tick.mve =
        { s.mve with
          settleTimer := s.mve.settleTimer.tick
          recordTimer := s.mve.recordTimer.tick
          active := s.mve.active.map Context.tick } ∧
      s.tick.cwu = { s.cwu with secondsTimer := s.cwu.secondsTimer.tick })) ∧
    (Timer.stopped.tick = .stopped ∧ Timer.stopped.tickBase = .stopped ∧
      Timer.stopped.tickPulse = .stopped) ∧
    (∀ e : Nat,
      (Timer.running e).tick = .running (e + 1) ∧
      (Timer.running e).tickBase = (if 12500 ≤ e + 1 then .running 0 else .running (e + 1)) ∧
      (Timer.running e).tickPulse = (if 25 ≤ e + 1 then .stopped else .running (e + 1))) ∧
    ∀ c : Context,
      (∀ n, c.work = .timed n → c.tick = { c with work := .timed (n - 1) }) ∧
      ((∀ n, c.work ≠ .timed n) → c.tick = c)

/-- While either reset is asserted the part takes no event. An assertion puts the outputs at the values of
R196 and changes nothing else before the release, but for the watch of an earlier hold, which ends. A release
ends the hold unless the other reset is asserted, which is the one left when both were (R195, R196; what is
kept before the release, the watch, and which reset an assertion is: log entries 14, 33 and 37). -/
def Obligations.HeldPartTakesNothing : Prop :=
  (∀ (i : Instr) (s : State), i.isReset = false → s.cfg.held = true → exec i s = .next s) ∧
  (∀ s : State,
    exec .resetAsserted s =
      .next
        { s with
          cfg :=
            { s.cfg with
              asserted := s.cfg.asserted.assert
              restartWatch := s.cfg.held && s.cfg.restartWatch }
          pins := ⟨false, false, false, 0, false, true, false⟩ }) ∧
  (∀ c : Cfg, c.held = true ↔ c.asserted ≠ .released) ∧
  (∀ r : ResetLines,
    r.assert = (if r = .released then .one else .both) ∧
    (r.release .powerOn = .released ↔ r = .released ∨ r = .one ∨ r = .only .powerOn) ∧
    (r.release .powerOn = .only .pin ↔ r = .both ∨ r = .only .pin) ∧
    (r.release .pin = .released ↔ r = .released ∨ r = .one ∨ r = .only .pin) ∧
    (r.release .pin = .only .powerOn ↔ r = .both ∨ r = .only .powerOn)) ∧
  ∀ (i : Instr) (k : ResetKind) (s t : State),
    (i = .powerOnReset ∧ k = .powerOn) ∨ (i = .pinReset ∧ k = .pin) → exec i s = .next t →
      t.cfg.asserted = s.cfg.asserted.release k

/-- Every command answers a next state and leaves the queue alone. Of the commands that are neither resets
nor the end of a load: the configuration changes only at the crystal's failure, and OFFLINE is neither
entered nor left. RECEIVED_BYTE, which acts as the telegram it completes, left out too: the order echo, the
cap and g_set change only by orders; the peer table only by STATE telegrams and ageing; gap zero, the ring,
total wear and the calibration number only by samples and orders; the measured quantities, the conditions and
the accepted levels only by samples, pulses, edges, orders and period expiries; the receiving side and the
counts of silent and quiet periods only by telegrams, idle gaps, period expiries and the crystal's failure; a
pending event is removed only by ACK_EVENTS; and in TRIPPED the items of the RSC change only by CLEAR_TRIP;
an UNKNOWN_KIND may hold any order (R14, R16, R18, R22, R23, R26, R84, R103, R163, R165, R173, R186;
received bytes: log entry 13). -/
def Obligations.CommandsKeepOtherBlocks : Prop :=
  ∀ (i : Instr) (s : State), ∃ t, exec i s = .next t ∧ t.pending = s.pending ∧
    (i.isReset = false → (∀ bytes, i ≠ .imageLoadEnd bytes) →
      (i ≠ .crystalFailure → t.cfg = s.cfg) ∧ t.cfg.image = s.cfg.image ∧
      (t.rsc.runState = .offline ↔ s.rsc.runState = .offline) ∧
      ((∀ b f, i ≠ .receivedByte b f) →
        (orderParts i = none →
          t.echo = s.echo ∧ t.ale.cap = s.ale.cap ∧ t.mve.gSet = s.mve.gSet) ∧
        (i ≠ .periodExpiry → (∀ own x, i ≠ .stateTelegram own x) → t.peers = s.peers) ∧
        (orderParts i = none → (∀ c n, i ≠ .sampleEvent c n) →
          t.cwu.r0 = s.cwu.r0 ∧ t.cwu.ring = s.cwu.ring ∧ t.cwu.totalWear = s.cwu.totalWear ∧
          t.cwu.calNumber = s.cwu.calNumber) ∧
        (orderParts i = none → (∀ c n, i ≠ .sampleEvent c n) → i ≠ .scalePulse →
          i ≠ .trampActiveEdge → i ≠ .trampInactiveEdge → i ≠ .pullcordActiveEdge →
          i ≠ .pullcordInactiveEdge → i ≠ .runFbActiveEdge → i ≠ .runFbInactiveEdge →
          i ≠ .periodExpiry → t.mfe = s.mfe) ∧
        (orderParts i = none → (∀ own x, i ≠ .stateTelegram own x) → i ≠ .idleGap →
          i ≠ .invalidTelegramDiscard → i ≠ .periodExpiry → i ≠ .crystalFailure →
          t.lbi.rx = s.lbi.rx ∧ t.lbi.rxBytes = s.lbi.rxBytes ∧ t.lbi.silent = s.lbi.silent ∧
          t.lbi.dupQuiet = s.lbi.dupQuiet) ∧
        ((∀ h kinds, i ≠ .ackEvents h kinds) → (∀ h k a, i ≠ .unknownKind h k a) →
          ∀ k : EventKind, s.evu.events.has k = true → t.evu.events.has k = true) ∧
        ((∀ h, i ≠ .clearTrip h) → (∀ h k a, i ≠ .unknownKind h k a) →
          s.rsc.runState = .tripped → t.rsc = s.rsc)))

/-! ### Resets -/

/-- Both resets put the LBI, the peer table, the MFE, the ALE, the RSC, the MVE, the ORD, the CFG, the
outputs and the CWU's items outside the retained domain at their reset values, and keep no pending event but
LINER_WORN. The retained domain stands in PowerOnResetRestores and PinResetKeepsRetained; the throughput
source and the estimated flag, which the manual leaves to the load, in ImageLoadEnds. The part is held on only
where the other reset is asserted (R7, R19, R36, R38, R58, R59, R83, R125, R153, R171, R173, R193, R195, R196,
R200; which reset an assertion is: log entry 37). -/
def Obligations.ResetValues : Prop :=
  ∀ (i : Instr) (s t : State), i = .powerOnReset ∨ i = .pinReset → exec i s = .next t →
    (t.lbi.tx = .idle ∧ t.lbi.attempts = 0 ∧ t.lbi.earlyPending = false ∧ t.lbi.inhibit = false ∧
      t.lbi.rx = .hunt ∧ t.lbi.silent = 0 ∧ t.lbi.dupQuiet = 2 ∧ t.lbi.periodTimer = .stopped) ∧
    t.peers = [] ∧
    (t.mfe.load = 0 ∧ t.mfe.level = 0 ∧ t.mfe.raw = 0 ∧ t.mfe.gap = 0 ∧ t.mfe.gapValid = false ∧
      t.mfe.pulses = 0 ∧ t.mfe.window = List.replicate 16 0 ∧ t.mfe.watchdog = 0 ∧ t.mfe.q = 0 ∧
      t.mfe.overload = false ∧ t.mfe.overloadCount = 0 ∧ t.mfe.levelHigh = false ∧
      t.mfe.levelCount = 0 ∧ t.mfe.trampIn = false ∧ t.mfe.pullcordIn = false ∧
      t.mfe.runFbIn = false ∧ t.mfe.sampleBase = .stopped) ∧
    (t.ale.a = 0 ∧ t.ale.term = .hold ∧ t.ale.u = 0 ∧ t.ale.residue = 0 ∧ t.ale.supply = false ∧
      t.ale.cap = 1000) ∧
    (t.rsc.runState = .offline ∧ t.rsc.subPhase = none ∧ t.rsc.hold = HoldSet.empty ∧
      t.rsc.tripCause = none ∧ t.rsc.startTimer = .stopped ∧ t.rsc.spinTimer = .stopped ∧
      t.rsc.interlockTimer = .stopped ∧ t.rsc.drainTimer = .stopped) ∧
    (t.mve.active = none ∧ t.mve.stack = [] ∧ t.mve.parked = none ∧
      t.mve.requests = RequestSet.empty ∧ t.mve.tokenHigh = .orderGap ∧ t.mve.tokenLow = .start ∧
      t.mve.settleTimer = .stopped ∧ t.mve.recordTimer = .stopped) ∧
    (t.cwu.attempts = 0 ∧ t.cwu.loadCount = 0 ∧ t.cwu.stillCount = 0 ∧ t.cwu.reference = none ∧
      t.cwu.seconds = 0 ∧ t.cwu.secondsTimer = .stopped ∧ t.cwu.selection = 0) ∧
    t.echo = none ∧ (∀ k : EventKind, t.evu.events.has k = true → k = .linerWorn) ∧
    (t.cfg.validity = .loading ∧ t.cfg.clock = .crystal ∧ t.cfg.crystalCount = 0 ∧
      (t.cfg.held = true ↔
        s.cfg.asserted = .both ∨ (i = .powerOnReset ∧ s.cfg.asserted = .only .pin) ∨
          (i = .pinReset ∧ s.cfg.asserted = .only .powerOn))) ∧
    t.pins = ⟨false, false, false, 0, false, true, false⟩

/-- POWER_ON_RESET leaves the state of `State.reset`, whatever came before, with the CWU's items as R153 gives
them, but for the watch that a reset on the internal clock starts anew and for RESET_N, where it is still
asserted; the length of the watch, which reset an assertion is, the values the manual does not give, the queue
and the count of free values are the model's own (R153, R195, R202; log entries 1, 2, 3, 8, 19, 31, 33, 35 and
37). -/
def Obligations.PowerOnResetRestores : Prop :=
  ∀ s : State, ∃ t,
    exec .powerOnReset s = .next t ∧
    t =
      { State.reset with
        cfg :=
          { Cfg.reset with
            asserted := s.cfg.asserted.release .powerOn
            restartWatch := s.cfg.clock == .internal || (s.cfg.held && s.cfg.restartWatch) }
        draws := s.draws
        pending := s.pending } ∧
    t.cwu.attempts = 0 ∧ t.cwu.loadCount = 0 ∧ t.cwu.stillCount = 0 ∧ t.cwu.reference = none ∧
    t.cwu.calNumber = 0 ∧ t.cwu.ring = [] ∧ t.cwu.totalWear = 0 ∧ t.cwu.seconds = 0 ∧
    t.cwu.secondsTimer = .stopped ∧ t.cwu.sinceCal = 0 ∧ t.cwu.hours = 0 ∧ t.cwu.minutes = 0 ∧
    t.cwu.due = true ∧ t.cwu.selection = 0 ∧ (∀ k, t.evu.events.has k = false) ∧
    t.cfg.lastReset = .powerOn

/-- PIN_RESET keeps the retained domain and a pending LINER_WORN; the other items of the CWU and the EVU take
their reset values, and so do the other blocks; the supply monitor's reset stays where it is still asserted
(R171, R193, R195, R202; the due flag waits for the load, and the values the manual does not give, the length
of the watch after a reset on the internal clock, which reset an assertion is, and the queue are the model's
own: log entries 1, 8, 18, 19, 31, 33, 35 and 37). -/
def Obligations.PinResetKeepsRetained : Prop :=
  ∀ s : State, ∃ t,
    exec .pinReset s = .next t ∧
    t.cwu.r0 = s.cwu.r0 ∧ t.cwu.ring = s.cwu.ring ∧ t.cwu.totalWear = s.cwu.totalWear ∧
    t.cwu.hours = s.cwu.hours ∧ t.cwu.minutes = s.cwu.minutes ∧
    t.cwu.sinceCal = s.cwu.sinceCal ∧ t.cwu.calNumber = s.cwu.calNumber ∧
    t.cwu.attempts = 0 ∧ t.cwu.loadCount = 0 ∧ t.cwu.stillCount = 0 ∧ t.cwu.reference = none ∧
    t.cwu.seconds = 0 ∧ t.cwu.secondsTimer = .stopped ∧ t.cwu.selection = 0 ∧
    (∀ k, t.evu.events.has k = (s.evu.events.has k && k == .linerWorn)) ∧
    t.cfg =
      { Cfg.reset with
        lastReset := .pin
        asserted := s.cfg.asserted.release .pin
        restartWatch := s.cfg.clock == .internal || (s.cfg.held && s.cfg.restartWatch) } ∧
    t.lbi = Lbi.reset ∧ t.peers = [] ∧ t.mfe = Mfe.reset ∧ t.ale = Ale.reset ∧
    t.rsc = Rsc.reset ∧ t.mve = Mve.reset ∧ t.echo = none ∧ t.pins = Pins.reset ∧
    t.pending = s.pending

/-! ### The end of a load and the crystal -/

/-- IMAGE_LOAD_END: an image that fails a check leaves the station OFFLINE and INVALID. A valid one is handed
over: the values, the move table and g_set, the throughput source with the estimated flag, r0, and the
calibration-due flag, which a power-on reset keeps and a pin reset sets from the retained minutes. The station
enters READY with its timers and an early telegram, or on the internal clock TRIPPED with cause CLOCK; the
other blocks stay as they were. With no load in progress nothing happens (R7, R12, R50, R51, R58, R84, R169,
R171, R197, R199, R201, R202; r0, a load end with no load, and ATTN after a reset on the internal clock: log
entries 2, 9 and 33). -/
def Obligations.ImageLoadEnds : Prop :=
  ∀ (s : State) (bytes : List Byte), s.cfg.held = false →
    (s.cfg.validity ≠ .loading → exec (.imageLoadEnd bytes) s = .next s.drive) ∧
    (s.cfg.validity = .loading → readImage bytes = none →
      exec (.imageLoadEnd bytes) s =
        .next (State.drive { s with cfg := { s.cfg with validity := .invalid } })) ∧
    ∀ (i : Image) (records : List MoveRecord),
      s.cfg.validity = .loading → s.rsc = Rsc.reset → readImage bytes = some (i, records) →
      let order : MoveRecord :=
        { kind := .gapTo
          targetSource := .standing
          argument := i.gInit
          step := 0
          timeout := i.orderTimeout
          feed := i.orderFeed
          notify := false
          update := false
          stop := true
          next := 0 }
      let table := order :: records
      ∃ t, exec (.imageLoadEnd bytes) s = .next t ∧
        t.cfg = { s.cfg with validity := .valid, image := i, restartWatch := false } ∧
        t.mfe =
          { s.mfe with
            source := if i.role = .bin ∨ i.w = 0 then .estimate else .scale
            estimated := decide (i.role = .bin ∨ i.w = 0)
            sampleBase := .running 0 } ∧
        t.cwu =
          { s.cwu with
            r0 := if s.cwu.r0Set then s.cwu.r0 else i.r0Init
            r0Set := true
            due := t.cwu.due
            secondsTimer := if i.role = .crusher then .stopped else s.cwu.secondsTimer } ∧
        (s.cfg.lastReset = .powerOn → t.cwu.due = s.cwu.due) ∧
        (s.cfg.lastReset = .pin → (t.cwu.due = true ↔ i.calInterval ≤ s.cwu.sinceCal)) ∧
        (s.cfg.clock = .crystal →
          t.rsc = { Rsc.reset with runState := .ready } ∧ t.pins.permit = true ∧
          t.pins.run = false ∧ t.evu = s.evu ∧
          t.mve = { s.mve with table := table, gSet := i.gInit } ∧
          t.lbi.periodTimer = .running 0 ∧
          (s.lbi.tx = .idle → s.lbi.inhibit = false →
            t.lbi =
              { s.lbi with tx := .waitIdle, attempts := 0, periodTimer := .running 0 })) ∧
        (s.cfg.clock = .internal →
          t.rsc = { Rsc.reset with runState := .tripped, tripCause := some .clock } ∧
          t.pins.permit = false ∧ t.pins.run = false ∧
          t.evu.events = s.evu.events ||| BitVec.twoPow 20 9 ∧
          t.mve =
            { s.mve with
              table := table
              gSet := i.gInit
              active := none
              stack := []
              parked := none
              requests := { RequestSet.empty with orderGap := s.mve.requests.orderGap }
              settleTimer := .stopped
              recordTimer := .stopped } ∧
          t.lbi = { s.lbi with periodTimer := .running 0 }) ∧
        (t.pins.attn = true ↔
          (s.cfg.crystalMissed = true ∧ Config.attnAfterRestart = true) ∨
          ∃ k : EventKind, t.evu.events.has k = true ∧ i.attnMask.has k = true) ∧
        t.peers = s.peers ∧ t.ale = s.ale ∧ t.echo = s.echo ∧ t.draws = s.draws ∧
        t.pending = s.pending

/-- An image is accepted exactly when it has the version, the length and the word sum, clear bits 20 to 23 in
both masks, known codes, every parameter in its range, the relations, and 31 records with every field in the
range of its kind; and its values, masks, heads and records are those that stand at the offsets of the layout,
high byte first (R107, R108, R111, R187, R197, R198, R203; the layout of spec/12, section 12.4, and missing
bytes: log entry 15). -/
def Obligations.AcceptedImageIsChecked : Prop :=
  ∀ (bytes : List Byte) (i : Image) (records : List MoveRecord),
    let byte (o : Nat) : Byte := bytes.getD o 255#8
    let word (o : Nat) : BitVec 16 := byte o ++ byte (o + 1)
    let num (o : Nat) : Nat := (byte o).toNat * 256 + (byte (o + 1)).toNat
    readImage bytes = some (i, records) ↔
      num 0 = 3 ∧ num 2 = 346 ∧
      ((List.range 173).map fun k => num (2 * k)).sum % 65536 = 0 ∧
      i.number = (byte 4).toNat ∧
      [none, some Role.feeder, some .crusher, some .bin][(byte 5).toNat]? = some (some i.role) ∧
      i.position = (byte 6).toNat ∧ i.branch = (byte 7).toNat ∧
      i.terminal = (byte 8).getLsbD 0 ∧ i.noFeedback = (byte 8).getLsbD 1 ∧
      i.aTerm = num 9 ∧ i.panel1 = (byte 11).toNat ∧ i.panel2 = (byte 12).toNat ∧
      [i.tB, i.lF, i.kp, i.r0Init, i.w, i.fMax, i.uMin, i.duUp, i.pOvl, i.pLim, i.pIdle, i.pTouch,
          i.lHigh, i.lSet, i.lLow, i.lTgt, i.kc, i.kl, i.rRed, i.mBin, i.tH, i.gMin, i.gMax, i.gInit,
          i.db, i.qIdle, i.wJump, i.wMax, i.startLimit, i.spinUpLimit, i.interlockLimit,
          i.drainTime, i.settleLimit, i.calInterval, i.orderTimeout] =
        (List.range 35).map (fun k => num (13 + 2 * k)) ∧
      [Feed.none, .reduce, .stop][num 83]? = some i.orderFeed ∧
      i.attnMask = (byte 85 ++ byte 86 ++ byte 87).extractLsb' 0 20 ∧
      i.tripMask = (byte 88 ++ byte 89 ++ byte 90).extractLsb' 0 20 ∧
      (byte 85).extractLsb' 4 4 = 0#4 ∧ (byte 88).extractLsb' 4 4 = 0#4 ∧
      [i.headTramp, i.headOverload, i.headCalibrate, i.headStart, i.headSchedule] =
        (List.range 5).map (fun k =>
          ⟨((byte (339 + k)).extractLsb' 0 5).toNat, (byte (339 + k)).getLsbD 7⟩) ∧
      (1 ≤ i.number ∧ i.number ≤ 30) ∧ (1 ≤ i.position ∧ i.position ≤ 15) ∧ i.branch ≤ 3 ∧
      i.aTerm ≤ 4000 ∧ i.panel1 ≤ 30 ∧ i.panel2 ≤ 30 ∧
      (100 ≤ i.tB ∧ i.tB ≤ 1000 ∧ i.tB % 10 = 0) ∧ (2 ≤ i.lF ∧ i.lF ≤ 8) ∧
      (1 ≤ i.kp ∧ i.kp ≤ 2048) ∧ (1 ≤ i.r0Init ∧ i.r0Init ≤ 4094) ∧ i.w ≤ 1000 ∧
      (1 ≤ i.fMax ∧ i.fMax ≤ 4000) ∧ i.uMin ≤ 500 ∧ (1 ≤ i.duUp ∧ i.duUp ≤ 1000) ∧
      (500 ≤ i.pLim ∧ i.pLim ≤ 1200) ∧ (20 ≤ i.pIdle ∧ i.pIdle ≤ 200) ∧
      (100 ≤ i.pTouch ∧ i.pTouch ≤ 1500) ∧ (i.pLim < i.pOvl ∧ i.pOvl ≤ 1500) ∧
      (100 ≤ i.lHigh ∧ i.lHigh ≤ 1000) ∧ i.lSet ≤ 1000 ∧ i.lLow ≤ 1000 ∧ i.lTgt ≤ 1000 ∧
      (1 ≤ i.kc ∧ i.kc ≤ 10000) ∧ i.kl ≤ 255 ∧ i.rRed ≤ 1000 ∧ (1 ≤ i.mBin ∧ i.mBin ≤ 10000) ∧
      (60 ≤ i.tH ∧ i.tH ≤ 3600) ∧
      (i.gMin < i.gMax ∧ i.gMin ≤ i.gInit ∧ i.gInit ≤ i.gMax ∧ i.gMax ≤ 3000) ∧
      (1 ≤ i.db ∧ i.db ≤ 20) ∧ i.qIdle ≤ 400 ∧ (1 ≤ i.wJump ∧ i.wJump ≤ 500) ∧
      (1 ≤ i.wMax ∧ i.wMax ≤ 3000) ∧ (10 ≤ i.startLimit ∧ i.startLimit ≤ 600) ∧
      (1 ≤ i.spinUpLimit ∧ i.spinUpLimit ≤ 60) ∧ (1 ≤ i.interlockLimit ∧ i.interlockLimit ≤ 60) ∧
      (5 ≤ i.drainTime ∧ i.drainTime ≤ 300) ∧ (5 ≤ i.settleLimit ∧ i.settleLimit ≤ 300) ∧
      (60 ≤ i.calInterval ∧ i.calInterval ≤ 30000) ∧
      (1 ≤ i.orderTimeout ∧ i.orderTimeout ≤ 600) ∧
      (∀ r : Requester, (i.head r).slot ≤ 31) ∧
      (i.noFeedback = true → i.role = .bin) ∧
      (∀ k : EventKind, i.tripMask.has k = true →
        k = .scaleLost ∨ k = .gapSensor ∨ k = .busSilent ∨ k = .overload ∨ k = .levelHigh) ∧
      records.length = 31 ∧
      (∀ n r, records[n]? = some r →
        let o := 91 + 8 * n
        [RecordKind.gapTo, .gapBy, .touch, .dwell, .rateFor][((byte o).extractLsb' 0 3).toNat]? =
          some r.kind ∧
        r.targetSource = (if (byte o).getLsbD 3 then .standing else .absolute) ∧
        [Feed.none, .reduce, .stop][((byte o).extractLsb' 4 2).toNat]? = some r.feed ∧
        r.notify = (byte o).getLsbD 6 ∧ r.update = (byte o).getLsbD 7 ∧
        r.next = ((byte (o + 1)).extractLsb' 0 5).toNat ∧ r.stop = (byte (o + 1)).getLsbD 7 ∧
        r.argument = (word (o + 2)).toInt ∧ r.step = (word (o + 4)).toInt ∧
        r.timeout = num (o + 6)) ∧
      ∀ r ∈ records,
        (1 ≤ r.timeout ∧ r.timeout ≤ 600) ∧ r.next ≤ 31 ∧ (-3000 ≤ r.step ∧ r.step ≤ 3000) ∧
        (r.kind = .gapTo ∨ r.kind = .touch → 0 ≤ r.argument ∧ r.argument ≤ 3000) ∧
        (r.kind = .gapBy → -3000 ≤ r.argument ∧ r.argument ≤ 3000) ∧
        (r.kind = .dwell → 1 ≤ r.argument ∧ r.argument ≤ 600) ∧
        (r.kind = .rateFor → 0 ≤ r.argument ∧ r.argument ≤ 1000)

/-- CRYSTAL_FAILURE: INTERNAL, CLOCK_FAIL, both bus sides stopped, and a trip with cause CLOCK where the
RSC takes trips; a trip already there keeps its cause, and OFFLINE takes none. A failure in the bit time of
the release of a reset that arrived on the internal clock is remembered as the crystal still absent (R200,
R201, R202; on the internal clock no effect, the count at 16, and that bit time: log entries 9, 20 and 33). -/
def Obligations.CrystalFailureStopsBus : Prop :=
  ∀ s : State, s.cfg.held = false →
    (s.cfg.clock = .internal → exec .crystalFailure s = .next s.drive) ∧
    (s.cfg.clock = .crystal →
      ∃ t, exec .crystalFailure s = .next t ∧
        t.cfg =
          { s.cfg with
            clock := .internal, crystalCount := 16, crystalMissed := s.cfg.restartWatch } ∧
        t.lbi.tx = .idle ∧ t.lbi.attempts = 0 ∧ t.lbi.earlyPending = false ∧ t.lbi.rx = .hunt ∧
        t.lbi.rxBytes = [] ∧
        t.evu.events.has .clockFail = true ∧
        (∀ k, s.evu.events.has k = true → t.evu.events.has k = true) ∧
        (s.rsc.runState = .offline ∨ s.rsc.runState = .tripped →
          t.rsc = s.rsc ∧ t.mve = s.mve ∧ t.ale = s.ale ∧ t.cwu = s.cwu) ∧
        (s.rsc.runState ≠ .offline → s.rsc.runState ≠ .tripped →
          t.rsc = { Rsc.reset with runState := .tripped, tripCause := some .clock } ∧
          t.evu.events.has .trip = true ∧ t.mve.active = none ∧ t.mve.stack = [] ∧
          t.mve.parked = none ∧ s.mve.SameTable t.mve ∧ s.cwu.SameRecords t.cwu) ∧
        t.mfe = s.mfe ∧ t.peers = s.peers ∧ t.echo = s.echo ∧ t.pending = s.pending)

/-! ### Invariants that every step keeps -/

/-- At reset every invariant of Safety.lean holds; the configured values before a load are the model's choice
(log entry 1). -/
def Obligations.InvariantsHoldAtReset : Prop :=
  State.reset.coherent ∧ State.reset.mve.ordered ∧ State.reset.mve.statusOk ∧
  State.reset.mve.countsOk ∧ State.reset.peersOk ∧ State.reset.sendingOk ∧
  State.reset.receivingOk ∧ State.reset.storesOk ∧ State.reset.gapOk ∧ State.reset.feedOk ∧
  State.reset.pinsOk

/-- Run state, hold set, limiting results and moves go on fitting together: the station holds exactly while
its hold set is non-empty, it has a trip cause exactly in TRIPPED, its allowance and feed command are 0 but in
RUNNING, no chain runs outside the running group, the causes of the MVE and the CWU follow their owners, and a
station whose reset did not find the crystal stays TRIPPED with cause CLOCK until a reset (R60, R61,
R91, R92, R136, R146, R150, R151, R158, R202; the mark of such a reset: log entry 33). -/
def Obligations.CoherenceKept : Prop :=
  ∀ s t : State, s.coherent → step s = .next t → t.coherent

/-- The suspension stack goes on rising strictly in priority below the active chain, and a parked fault
goes on leaving room for a chain of priority 3 only (R140, R146). -/
def Obligations.ArbiterOrderKept : Prop :=
  ∀ s t : State, s.mve.ordered → step s = .next t → t.mve.ordered ∧ t.mve.stack.length ≤ 3

/-- Each context goes on having the status of its place, at most 63 completed records (64 in the fault
slot), at most two re-drives and at most one counted sample (R109, R113, R122, R132). -/
def Obligations.ContextCountsKept : Prop :=
  ∀ s t : State, s.mve.statusOk → s.mve.countsOk → step s = .next t →
    t.mve.statusOk ∧ t.mve.countsOk

/-- The peer table goes on being ascending, of at most 16 entries, without the station's own number, with
ages below 64, and empty in OFFLINE (R20, R22, R26, R36). -/
def Obligations.PeerTableKept : Prop :=
  ∀ s t : State, s.peersOk → step s = .next t → t.peersOk

/-- A sending side that may not run goes on being idle, and a receiving side that may not run goes on
hunting; bytes are held only in COLLECT, fewer than a length byte of 10 to 48 says (R7, R13, R14). -/
def Obligations.BusSidesKept : Prop :=
  ∀ s t : State, s.sendingOk → s.receivingOk → step s = .next t → t.sendingOk ∧ t.receivingOk

/-- The window goes on holding sixteen counts, the table 32 records and the ring at most eight, with the
report selection inside the ring (R44, R106, R165, R167). -/
def Obligations.StoresKept : Prop :=
  ∀ s t : State, s.storesOk → step s = .next t → t.storesOk

/-- The configured values go on being valid, and g_set goes on lying within g_min..g_max with the order
slot holding it (R110, R198). -/
def Obligations.GapTargetKept : Prop :=
  ∀ s t : State, s.gapOk → step s = .next t → t.gapOk

/-- The feed command goes on being 0 or within u_min..1000, and 0 but in RUNNING; the residue stays below
F_max, the cap within 0..1000 and the allowance within 0..4000 (R59, R77, R81). -/
def Obligations.FeedCommandKept : Prop :=
  ∀ s t : State, s.feedOk → step s = .next t → t.feedOk

/-- The outputs go on showing the state: RUN, PERMIT and ATTN as the run state and the pending set say, ATTN
also, as a free value says, at a station whose reset did not find the crystal, RAISE and LOWER while the
active context drives and never together, FEED at u, the transmit enable in SENDING, and the values of R196 in
OFFLINE and while a reset is asserted. Driving the outputs changes nothing else (R81, R85, R134, R188, R192,
R196, R202; driven at each command's end, and R202 beside R188: log entries 24 and 33). -/
def Obligations.OutputsKept : Prop :=
  ∀ s t : State,
    (s.drive.pinsOk ∧ s.drive = { s with pins := s.drive.pins }) ∧
    (s.pinsOk → step s = .next t →
    t.pinsOk ∧ (t.pins.raise && t.pins.lower) = false ∧
    (t.cfg.held = false → t.rsc.runState ≠ .offline →
      (t.pins.permit = true ↔ t.rsc.runState ≠ .tripped) ∧
      (t.pins.run = true ↔
        t.rsc.runState = .running ∨ t.rsc.runState = .holding ∨ t.rsc.runState = .stopping ∨
        (t.rsc.runState = .starting ∧ t.rsc.subPhase = some .spinUp)) ∧
      (t.pins.attn = true ↔
        (t.cfg.crystalMissed = true ∧ Config.attnAfterRestart = true) ∨
        ∃ k : EventKind, t.evu.events.has k = true ∧ t.cfg.image.attnMask.has k = true) ∧
      (t.pins.raise = true ↔ ∃ c, t.mve.active = some c ∧ c.phase = .drive .raise) ∧
      (t.pins.lower = true ↔ ∃ c, t.mve.active = some c ∧ c.phase = .drive .lower) ∧
      t.pins.feed = t.ale.u ∧ (t.pins.txEnable = true ↔ t.lbi.tx = .sending)) ∧
    (t.cfg.held = true ∨ t.rsc.runState = .offline →
      t.pins = ⟨false, false, false, 0, false, true, false⟩))

/-! ### Telegrams -/

/-- Every STATE telegram and every ORDER telegram reads back from its bytes, with every field at every value. A
telegram is read from the offsets of its layout, high byte first, each optional field after the present ones
before it, and is sent with every unassigned bit at 0 (the layouts of spec/12, sections 12.2 and 12.3; R203). -/
def Obligations.TelegramRoundTrip : Prop :=
  let byte (bytes : List Byte) (k : Nat) : Byte := bytes.getD k 0#8
  let word (bytes : List Byte) (k : Nat) : BitVec 16 := byte bytes k ++ byte bytes (k + 1)
  let has (bytes : List Byte) (k : Nat) : Bool := (word bytes 3).getLsbD k
  let place (bytes : List Byte) (k : Nat) : Nat :=
    17 +
      ((List.range k).map fun j =>
        if has bytes j then [1, 2, 4, 2, 3, 2, 2, 3, 9].getD j 0 else 0).sum
  (∀ t : StateTelegram, decodeTelegram t.encode = some (.state t)) ∧
  (∀ o : OrderTelegram, decodeTelegram o.encode = some (.order o)) ∧
  (∀ (bytes : List Byte) (t : StateTelegram), decodeTelegram bytes = some (.state t) →
    let b := byte bytes
    let w := word bytes
    let p := place bytes
    t.source = b 5 ∧
    t.runState = (b 6).extractLsb' 0 3 ∧ t.role = (b 6).extractLsb' 6 2 ∧
    t.position = (b 7).extractLsb' 0 4 ∧ t.branch = (b 7).extractLsb' 4 2 ∧
    t.terminal = (b 7).getLsbD 7 ∧ t.hold = (b 8).extractLsb' 0 7 ∧ t.allowance = w 9 ∧
    t.throughput = (w 11).extractLsb' 0 12 ∧ t.estimated = (w 11).getLsbD 15 ∧
    t.limiting = b 13 ∧ t.events = (b 14 ++ b 15 ++ b 16).extractLsb' 0 20 ∧
    t.tripCause = (if has bytes 0 then some (b (p 0)) else none) ∧
    t.level = (if has bytes 1 then some (w (p 1)) else none) ∧
    t.gap =
      (if has bytes 2 then
        some ⟨(w (p 2)).extractLsb' 0 12, (w (p 2)).getLsbD 15, w (p 2 + 2)⟩
      else none) ∧
    t.feed = (if has bytes 3 then some (w (p 3)) else none) ∧
    t.summary =
      (if has bytes 4 then
        some
          { bottom := (w (p 4)).extractLsb' 0 3
            middle := (w (p 4)).extractLsb' 3 3
            top := (w (p 4)).extractLsb' 6 3
            depth := (w (p 4)).extractLsb' 13 2
            requests := (b (p 4 + 2)).extractLsb' 0 6 }
      else none) ∧
    t.active =
      (if has bytes 5 then
        some
          { slot := b (p 5)
            requester := (b (p 5 + 1)).extractLsb' 0 3
            phase := (b (p 5 + 1)).extractLsb' 4 3 }
      else none) ∧
    t.parked =
      (if has bytes 6 then
        some
          { slot := b (p 6)
            status := (b (p 6 + 1)).extractLsb' 0 4
            requester := (b (p 6 + 1)).extractLsb' 4 3
            mirror := (b (p 6 + 1)).getLsbD 7 }
      else none) ∧
    t.echo =
      (if has bytes 7 then
        some { tag := b (p 7), kind := b (p 7 + 1), result := b (p 7 + 2) }
      else none) ∧
    t.report =
      (if has bytes 8 then
        some
          { index := (b (p 8)).extractLsb' 0 3
            accepted := (b (p 8)).getLsbD 7
            number := w (p 8 + 1)
            contact := w (p 8 + 3)
            wear := w (p 8 + 5)
            hours := w (p 8 + 7) }
      else none)) ∧
  (∀ (bytes : List Byte) (o : OrderTelegram), decodeTelegram bytes = some (.order o) →
    let b := byte bytes
    o.head.source = b 4 ∧ o.head.target = b 5 ∧ o.head.tag = b 6 ∧ o.kind = b 7 ∧
    o.arg = (if (b 3).getLsbD 0 then some (b 8 ++ b 9 ++ b 10) else none)) ∧
  ∀ t : StateTelegram,
    let bytes := t.encode
    let b := byte bytes
    let p := place bytes
    (b 6).extractLsb' 3 3 = 0#3 ∧ (b 7).getLsbD 6 = false ∧ (b 8).getLsbD 7 = false ∧
    (b 11).extractLsb' 4 3 = 0#3 ∧ (b 14).extractLsb' 4 4 = 0#4 ∧
    (t.gap.isSome = true → (b (p 2)).extractLsb' 4 3 = 0#3) ∧
    (t.summary.isSome = true →
      (b (p 4)).getLsbD 7 = false ∧ (b (p 4)).extractLsb' 1 4 = 0#4 ∧
      (b (p 4 + 2)).extractLsb' 6 2 = 0#2) ∧
    (t.active.isSome = true →
      (b (p 5 + 1)).getLsbD 3 = false ∧ (b (p 5 + 1)).getLsbD 7 = false) ∧
    (t.report.isSome = true → (b (p 8)).extractLsb' 3 4 = 0#4)

/-- What a valid telegram has: the delimiter, its own length, a kind, and the CRC over the bytes between.
Bytes with a delimiter, a length and a CRC are a STATE telegram exactly when the kind is 1, mask bits 9 to 15
are clear and the length is 19 with the sizes of the fields that the mask names, and an ORDER telegram exactly
when the kind is 2, mask bits 1 to 7 are clear and the length is 10, or 13 with the argument. The CRC starts
at all ones and takes each byte most significant bit first with the generator x^16 + x^12 + x^5 + 1, sent high
byte first. A telegram that the station composes keeps within the longest length (R2, R15, R203). -/
def Obligations.TelegramChecks : Prop :=
  (∀ (bytes : List Byte) (x : Telegram), decodeTelegram bytes = some x →
    10 ≤ bytes.length ∧ bytes.head? = some 0xC5#8 ∧ (bytes.getD 1 0#8).toNat = bytes.length ∧
    (bytes.getD 2 0#8 = 1#8 ∨ bytes.getD 2 0#8 = 2#8) ∧
    bytes.drop (bytes.length - 2) = wordBytes (crcOf ((bytes.take (bytes.length - 2)).drop 1))) ∧
  (∀ bytes : List Byte,
    let framed :=
      bytes.head? = some 0xC5#8 ∧ (bytes.getD 1 0#8).toNat = bytes.length ∧
        bytes.drop (bytes.length - 2) =
          wordBytes (crcOf ((bytes.take (bytes.length - 2)).drop 1))
    let mask : BitVec 16 := bytes.getD 3 0#8 ++ bytes.getD 4 0#8
    let fields :=
      (List.range 9).map fun k =>
        if mask.getLsbD k then [1, 2, 4, 2, 3, 2, 2, 3, 9].getD k 0 else 0
    ((∃ t, decodeTelegram bytes = some (.state t)) ↔
      framed ∧ bytes.getD 2 0#8 = 1#8 ∧ mask.extractLsb' 9 7 = 0#7 ∧
        bytes.length = 19 + fields.sum) ∧
    ((∃ o, decodeTelegram bytes = some (.order o)) ↔
      framed ∧ bytes.getD 2 0#8 = 2#8 ∧ (bytes.getD 3 0#8).extractLsb' 1 7 = 0#7 ∧
        bytes.length = if (bytes.getD 3 0#8).getLsbD 0 then 13 else 10)) ∧
  (crcOf [] = 0xFFFF#16 ∧
    (∀ (bytes : List Byte) (b : Byte),
      crcOf (bytes ++ [b]) =
        (List.range 8).foldl
          (fun (c : BitVec 16) (k : Nat) =>
            if c.msb != b.getLsbD (7 - k) then (c <<< 1) ^^^ 0x1021#16 else c <<< 1)
          (crcOf bytes)) ∧
    ∀ w : BitVec 16, wordBytes w = [w.extractLsb' 8 8, w.extractLsb' 0 8]) ∧
  ∀ s : State, s.compose.encode.length ≤ 48

/-- The contents that an attempt takes are the owners' values: every fixed field, and every optional field
with its contents, present under its condition, with the codes of the enumerated fields (R3, R4, R167, R203;
codes of spec/12, section 12.1). -/
def Obligations.ContentsComeFromOwners : Prop :=
  ∀ s : State,
    s.compose.source = BitVec.ofNat 8 s.cfg.image.number ∧
    s.compose.runState = s.rsc.runState.code ∧ s.compose.role = s.cfg.image.role.code ∧
    s.compose.position = BitVec.ofNat 4 s.cfg.image.position ∧
    s.compose.branch = BitVec.ofNat 2 s.cfg.image.branch ∧
    s.compose.terminal = s.cfg.image.terminal ∧
    s.compose.hold = s.rsc.hold.code ∧ s.compose.events = s.evu.events ∧
    (s.rsc.runState = .running → s.compose.allowance = BitVec.ofNat 16 s.ale.a) ∧
    (s.rsc.runState ≠ .running → s.compose.allowance = 0#16) ∧
    s.compose.throughput = BitVec.ofNat 12 s.mfe.q ∧ s.compose.estimated = s.mfe.estimated ∧
    s.compose.limiting = s.ale.term.code ∧
    (s.compose.tripCause =
      if s.rsc.runState = .tripped then s.rsc.tripCause.map TripCause.code else none) ∧
    (s.compose.level =
      if s.cfg.image.role = .feeder then none else some (BitVec.ofNat 16 s.mfe.level)) ∧
    (s.compose.gap =
      if s.cfg.image.role = .crusher then
        some ⟨BitVec.ofNat 12 s.mfe.gap, s.mfe.gapValid, BitVec.ofNat 16 s.mve.gSet⟩
      else none) ∧
    (s.compose.feed =
      if s.cfg.image.role = .feeder then some (BitVec.ofNat 16 s.ale.u) else none) ∧
    (s.compose.summary.isSome = true ↔
      s.mve.active ≠ none ∨ s.mve.stack ≠ [] ∨ s.mve.parked ≠ none ∨
      s.mve.requests ≠ RequestSet.empty) ∧
    (∀ m, s.compose.summary = some m →
      (∀ c, s.mve.stack[0]? = some c → m.bottom = c.requester.code) ∧
      (∀ c, s.mve.stack[1]? = some c → m.middle = c.requester.code) ∧
      (∀ c, s.mve.stack[2]? = some c → m.top = c.requester.code) ∧
      (s.mve.stack.length ≤ 0 → m.bottom = 7#3) ∧ (s.mve.stack.length ≤ 1 → m.middle = 7#3) ∧
      (s.mve.stack.length ≤ 2 → m.top = 7#3) ∧
      (s.mve.stack.length ≤ 3 → m.depth.toNat = s.mve.stack.length) ∧
      m.requests.getLsbD 0 = s.mve.requests.tramp ∧
      m.requests.getLsbD 1 = s.mve.requests.overload ∧
      m.requests.getLsbD 2 = s.mve.requests.orderGap ∧
      m.requests.getLsbD 3 = s.mve.requests.calibrate ∧
      m.requests.getLsbD 4 = s.mve.requests.start ∧
      m.requests.getLsbD 5 = s.mve.requests.schedule) ∧
    (s.compose.active =
      s.mve.active.map fun c => ⟨BitVec.ofNat 8 c.slot, c.requester.code, c.phase.code⟩) ∧
    (s.compose.parked =
      s.mve.parked.map fun c =>
        ⟨BitVec.ofNat 8 c.slot, c.status.code, c.requester.code, c.mirror⟩) ∧
    (s.compose.echo = s.echo.map fun e => ⟨e.tag, e.kind, e.result.code⟩) ∧
    (s.compose.report.isSome = true ↔
      s.cfg.image.role = .crusher ∧ s.cwu.selection < s.cwu.ring.length) ∧
    (∀ p r, s.compose.report = some p →
      s.cwu.ring[s.cwu.ring.length - 1 - s.cwu.selection]? = some r →
      p =
        { index := BitVec.ofNat 3 s.cwu.selection
          accepted := r.accepted
          number := BitVec.ofNat 16 r.number
          contact := BitVec.ofNat 16 r.contact
          wear := BitVec.ofInt 16 r.wear
          hours := BitVec.ofNat 16 r.hours }) ∧
    [RunState.offline, .ready, .starting, .running, .holding, .stopping, .tripped].map RunState.code =
      [0#3, 1#3, 2#3, 3#3, 4#3, 5#3, 6#3] ∧
    [Role.feeder, .crusher, .bin].map Role.code = [1#2, 2#2, 3#2] ∧
    [TripCause.pullcord, .noFeedback, .motorStopped, .duplicate, .trampUncleared, .chainFaultHigh,
        .clock, .selected].map TripCause.code =
      [1#8, 2#8, 3#8, 4#8, 5#8, 6#8, 7#8, 8#8] ∧
    [LimitTerm.gap, .power, .level, .cap, .supply, .space, .downstream, .terminal, .move, .hold].map
        LimitTerm.code =
      [0#8, 1#8, 2#8, 3#8, 4#8, 5#8, 6#8, 7#8, 8#8, 9#8] ∧
    [Requester.tramp, .overload, .orderGap, .calibrate, .start, .schedule].map Requester.code =
      [0#3, 1#3, 2#3, 3#3, 4#3, 5#3] ∧
    (∀ (d : Direction) (n : Nat),
      [Phase.load, .settle, .drive d, .verify n, .done, .running].map Phase.code =
        [0#3, 1#3, 2#3, 3#3, 4#3, 5#3]) ∧
    [FaultStatus.invalid, .loop, .sensor, .timeoutOpening, .timeoutClosing, .hunting, .noContact,
        .feedNotStopped].map (fun f => (Status.fault f).code) =
      [1#4, 2#4, 3#4, 4#4, 5#4, 6#4, 7#4, 8#4] ∧
    [OrderResult.accepted, .clamped, .refusedState, .refusedRole, .notPermitted, .unknownKind].map
        OrderResult.code =
      [0#8, 1#8, 2#8, 3#8, 4#8, 5#8] ∧
    (∀ h : HoldSet,
      h.code.getLsbD 0 = h.tramp ∧ h.code.getLsbD 1 = h.overload ∧
      h.code.getLsbD 2 = h.levelHigh ∧ h.code.getLsbD 3 = h.move ∧
      h.code.getLsbD 4 = h.moveFault ∧ h.code.getLsbD 5 = h.downstream ∧
      h.code.getLsbD 6 = h.ordered) ∧
    [EventKind.tramp, .overload, .levelHigh, .scaleLost, .gapSensor, .moveFault, .limit,
        .startTimeout, .interlockStop, .trip, .duplicateNumber, .peerTableFull, .busContention,
        .busSilent, .chainNotify, .calibrated, .calRejected, .calSuspect, .linerWorn,
        .clockFail].map EventKind.bit =
      List.range 20 ∧
    (∀ (e : EventSet) (k : EventKind), e.has k = e.getLsbD k.bit)

/-- A byte that completes a telegram in COLLECT acts as the command of that telegram: STATE_TELEGRAM, an
order, or the discard of an invalid one (R14, R15, R17; the model's choices: log entries 12 and 13). -/
def Obligations.CompletedBytesActAsTelegram : Prop :=
  ∀ (s : State) (b : Byte), s.cfg.held = false → s.receives = true → s.lbi.rx = .collect →
    3 ≤ (s.lbi.rxBytes ++ [b]).length →
    (s.lbi.rxBytes ++ [b]).length = lengthByte (s.lbi.rxBytes ++ [b]) →
    (decodeTelegram (s.lbi.rxBytes ++ [b]) = none →
      exec (.receivedByte b false) s = exec .invalidTelegramDiscard s) ∧
    (∀ t, decodeTelegram (s.lbi.rxBytes ++ [b]) = some (.state t) →
      exec (.receivedByte b false) s =
        exec (.stateTelegram (s.ownBytes (s.lbi.rxBytes ++ [b]) t) t) s) ∧
    (∀ (bytes : List Byte) (t : StateTelegram),
      s.ownBytes bytes t = true ↔
        s.lbi.rxDriven = true ∧ s.lbi.contents = some t ∧ bytes = t.encode) ∧
    ∀ o, decodeTelegram (s.lbi.rxBytes ++ [b]) = some (.order o) →
      exec (.receivedByte b false) s = exec (.unknownKind o.head o.kind o.arg) s

/-- The receiving side short of a complete telegram. RECEIVED_BYTE: HUNT ignores it, ARMED takes only the
delimiter, COLLECT stores it unless it shows a framing error or is a length that no telegram has. IDLE_GAP
arms the side and drops a truncated telegram; INVALID_TELEGRAM_DISCARD drops a complete one and hunts (R1,
R14, R15; whatever the idle time, the mark of a collection begun while driving, and a telegram given whole: log
entries 9, 12 and 13). -/
def Obligations.ReceiverCollects : Prop :=
  (∀ (s : State) (b : Byte) (f : Bool), s.cfg.held = false →
    (s.rsc.runState = .offline → exec (.receivedByte b f) s = .next s.drive) ∧
    (s.rsc.runState ≠ .offline →
      (s.receives = false ∨ s.lbi.rx = .hunt →
        exec (.receivedByte b f) s =
          .next (State.drive { s with lbi := { s.lbi with idleTime := 0 } })) ∧
      (s.receives = true → s.lbi.rx = .armed → b = 0xC5#8 → f = false →
        exec (.receivedByte b f) s =
          .next
            (State.drive
              { s with
                lbi :=
                  { s.lbi with
                    rx := .collect
                    rxBytes := [b]
                    rxDriven := s.lbi.tx == .sending
                    idleTime := 0 } })) ∧
      (s.receives = true →
        (s.lbi.rx = .armed ∧ (b ≠ 0xC5#8 ∨ f = true)) ∨ (s.lbi.rx = .collect ∧ f = true) ∨
          (s.lbi.rx = .collect ∧ s.lbi.rxBytes.length = 1 ∧ (b.toNat < 10 ∨ 48 < b.toNat)) →
        exec (.receivedByte b f) s =
          .next
            (State.drive
              { s with
                lbi :=
                  { s.lbi with rx := .hunt, rxBytes := [], rxDriven := false, idleTime := 0 } })) ∧
      (s.receives = true → s.lbi.rx = .collect → f = false →
        (s.lbi.rxBytes.length = 1 ∧ 10 ≤ b.toNat ∧ b.toNat ≤ 48) ∨
          (2 ≤ s.lbi.rxBytes.length ∧
            s.lbi.rxBytes.length + 1 ≠ lengthByte s.lbi.rxBytes) →
        exec (.receivedByte b f) s =
          .next
            (State.drive
              { s with
                lbi := { s.lbi with rxBytes := s.lbi.rxBytes ++ [b], idleTime := 0 } })))) ∧
  (∀ s : State, s.receives = true ↔ s.rsc.runState ≠ .offline ∧ s.cfg.clock = .crystal) ∧
  (∀ bytes : List Byte, lengthByte bytes = (bytes.getD 1 0#8).toNat) ∧
  ∀ s : State, s.cfg.held = false →
    (s.receives = false →
      exec .idleGap s = .next s.drive ∧ exec .invalidTelegramDiscard s = .next s.drive) ∧
    (s.receives = true →
      (s.lbi.rx ≠ .armed →
        exec .idleGap s =
          .next
            (State.drive
              { s with
                lbi := { s.lbi with rx := .armed, rxBytes := [], rxDriven := false } })) ∧
      (s.lbi.rx = .armed → exec .idleGap s = .next s.drive) ∧
      exec .invalidTelegramDiscard s =
        .next
          (State.drive
            { s with
              lbi :=
                { s.lbi with rx := .hunt, rxBytes := [], rxDriven := false, idleTime := 0 } }))

/-! ### Sending -/

/-- A cause of an early telegram: in IDLE one is begun with a fresh period, in WAIT_IDLE the one in hand
becomes it, in SENDING and BACKOFF the flag is set, and a stopped sending side begins none (R12, R13). -/
def Obligations.EarlyTelegramBegun : Prop :=
  ∀ s : State,
    (s.sends = true ↔
      s.rsc.runState ≠ .offline ∧ s.cfg.clock = .crystal ∧ s.lbi.inhibit = false) ∧
    (s.sends = false → s.early = s) ∧
    (s.sends = true →
      (s.lbi.tx = .idle →
        s.early =
          { s with
            lbi := { s.lbi with tx := .waitIdle, attempts := 0, periodTimer := .running 0 } }) ∧
      (s.lbi.tx = .waitIdle →
        s.early = { s with lbi := { s.lbi with periodTimer := .running 0 } }) ∧
      (s.lbi.tx = .sending ∨ s.lbi.tx = .backoff →
        s.early = { s with lbi := { s.lbi with earlyPending := true } }))

/-- ATTEMPT_START in WAIT_IDLE and BACKOFF_END in BACKOFF take fresh contents and start driving, whatever the
idle time; elsewhere they have no effect (R9, R10, R11; the idle time and the other states: log entry 9). -/
def Obligations.AttemptTakesContents : Prop :=
  ∀ s : State, s.cfg.held = false →
    (s.lbi.tx = .waitIdle →
      exec .attemptStart s =
        .next
          (State.drive
            { s with
              lbi :=
                { s.lbi with tx := .sending, contents := some s.compose, idleTime := 0 } })) ∧
    (s.lbi.tx = .backoff →
      exec .backoffEnd s =
        .next
          (State.drive
            { s with
              lbi :=
                { s.lbi with tx := .sending, contents := some s.compose, idleTime := 0 } })) ∧
    (s.lbi.tx ≠ .waitIdle → exec .attemptStart s = .next s.drive) ∧
    (s.lbi.tx ≠ .backoff → exec .backoffEnd s = .next s.drive)

/-- ATTEMPT_SUCCEEDS ends the telegram; ATTEMPT_LOST backs off, and the fourth loss gives the telegram up
with BUS_CONTENTION; a set early-telegram flag begins the follow-up; outside SENDING they have no effect
(R10, R11, R12; other states, and the contents kept after a success: log entries 9 and 12). -/
def Obligations.AttemptOutcomes : Prop :=
  ∀ s : State, s.cfg.held = false →
    (s.lbi.tx ≠ .sending →
      exec .attemptSucceeds s = .next s.drive ∧ exec .attemptLost s = .next s.drive) ∧
    (s.lbi.tx = .sending →
      (s.lbi.earlyPending = false →
        exec .attemptSucceeds s =
          .next
            (State.drive
              { s with lbi := { s.lbi with tx := .idle, attempts := 0, idleTime := 0 } })) ∧
      (s.lbi.earlyPending = true →
        exec .attemptSucceeds s =
          .next
            (State.drive
              { s with
                lbi :=
                  { s.lbi with
                    tx := .waitIdle
                    attempts := 0
                    earlyPending := false
                    periodTimer := .running 0
                    idleTime := 0 } })) ∧
      (s.lbi.attempts < 3 →
        exec .attemptLost s =
          .next
            (State.drive
              { s with
                lbi :=
                  { s.lbi with
                    tx := .backoff
                    attempts := s.lbi.attempts + 1
                    contents := none
                    idleTime := 0 } })) ∧
      (3 ≤ s.lbi.attempts →
        ∃ t, exec .attemptLost s = .next t ∧ t.lbi.attempts = 0 ∧
          t.lbi.earlyPending = false ∧
          (s.lbi.earlyPending = false →
            t.lbi.tx = .idle ∧ t.lbi.periodTimer = s.lbi.periodTimer) ∧
          (s.lbi.earlyPending = true →
            t.lbi.tx = .waitIdle ∧ t.lbi.periodTimer = .running 0) ∧
          t.evu.events = s.evu.events ||| BitVec.twoPow 20 12 ∧
          t = { s with lbi := t.lbi, evu := t.evu, pins := t.pins }))

/-! ### STATE telegrams and the peer table -/

/-- A STATE telegram under the station's own number: its own is not handed on and does not count as a
reception; another one is a duplicate, which inhibits sending, trips the station and resets both counts
(R16, R18, R103; log entries 12, 13 and 22). -/
def Obligations.OwnAndDuplicateTelegrams : Prop :=
  ∀ (s : State) (x : StateTelegram), s.cfg.held = false → s.receives = true →
    x.source.toNat = s.cfg.image.number →
    exec (.stateTelegram true x) s =
      .next
        (State.drive
          { s with
            lbi :=
              { s.lbi with rx := .hunt, rxBytes := [], rxDriven := false, idleTime := 0 } }) ∧
    ∃ t, exec (.stateTelegram false x) s = .next t ∧
      t.lbi.inhibit = true ∧ t.lbi.dupQuiet = 0 ∧ t.lbi.silent = 0 ∧ t.lbi.tx = .idle ∧
      t.lbi.attempts = 0 ∧ t.lbi.earlyPending = false ∧ t.lbi.rx = .hunt ∧
      t.evu.events.has .duplicateNumber = true ∧ t.rsc.runState = .tripped ∧
      (s.rsc.runState = .tripped → t.rsc = s.rsc ∧ t.mve = s.mve ∧ t.cwu = s.cwu) ∧
      (s.rsc.runState ≠ .tripped →
        t.rsc.tripCause = some .duplicate ∧ t.rsc.hold = HoldSet.empty ∧
        t.evu.events.has .trip = true ∧ t.mve.active = none ∧ t.mve.parked = none) ∧
      s.mve.SameTable t.mve ∧ s.cwu.SameRecords t.cwu ∧
      t.peers = s.peers ∧ t.mfe = s.mfe ∧ t.echo = s.echo ∧ t.cfg = s.cfg ∧
      t.pending = s.pending

/-- A STATE telegram of another station resets the silent-period count. One with a field value that the
manual does not list is discarded; any other one makes an entry with the fields of R21, which the table takes,
or a full and fresh table drops with PEER_TABLE_FULL. Where D or U changed, the RSC evaluates the line, the
MVE the STOP settle test, and then, where Q or A changed, the REDUCE settle test (R17, R18, R21, R23, R24,
R25, R28, R127; a telegram given whole, listed fields, order of the notice and its occasion: log entries 13,
17, 25 and 34). -/
def Obligations.ForeignTelegramWritesPeer : Prop :=
  ∀ (s : State) (own : Bool) (x : StateTelegram), s.cfg.held = false → s.receives = true →
    x.source.toNat ≠ s.cfg.image.number →
    let listed :=
      (1 ≤ x.source.toNat ∧ x.source.toNat ≤ 30) ∧ x.role ≠ 0#2 ∧ x.runState ≠ 7#3 ∧
        x.limiting.toNat ≤ 9 ∧ 1 ≤ x.position.toNat ∧
        ∀ c, x.tripCause = some c → 1 ≤ c.toNat ∧ c.toNat ≤ 8
    (¬listed → exec (.stateTelegram own x) s = .next s.gotOrder.drive) ∧
    (listed → (StateTelegram.entry x).isSome = true) ∧
    ∀ e, StateTelegram.entry x = some e →
      (e.number = x.source.toNat ∧ e.role.code = x.role ∧ e.position = x.position.toNat ∧
        e.branch = x.branch.toNat ∧ e.runState.code = x.runState ∧
        e.allowance = x.allowance.toNat ∧ e.throughput = x.throughput.toNat ∧
        e.level = x.level.map BitVec.toNat ∧ e.age = 0) ∧
      (listed →
        (writePeer s.cfg.image.lF e s.peers = none →
          exec (.stateTelegram own x) s = .next (s.gotOrder.raise .peerTableFull).drive) ∧
        ∀ ps, writePeer s.cfg.image.lF e s.peers = some ps →
          let written : State := { s.gotOrder with peers := ps }
          let told := written.evaluateLine.stopTest
          (neighboursChanged s { s with peers := ps } = false →
            exec (.stateTelegram own x) s = .next written.drive) ∧
          (neighboursChanged s { s with peers := ps } = true →
            exec (.stateTelegram own x) s =
              .next
                (if told.mfe.q = s.mfe.q ∧ told.ale.a = s.ale.a then told
                else told.reduceTest).drive) ∧
          ∃ t, exec (.stateTelegram own x) s = .next t ∧ t.peers = ps ∧ t.echo = s.echo ∧
            t.cfg = s.cfg ∧ t.pending = s.pending)

/-- What the table holds after a telegram: a known number is overwritten, an unknown one inserted while
there is room, and into a full table only in place of an entry of the greatest age, when that is stale; the
others stay as they were. Ageing raises every age by one and drops the entries that reach 64. What readers
take from it: D, U and the supply bin; and a change alters D or U when a station joins or leaves one of them,
or the run state, allowance or throughput of a member changes, or the level of the supply bin (R20, R23, R24,
R25, R26, R28, R30, R31, R32, R34; which level: log entry 34). -/
def Obligations.PeerTableWritten : Prop :=
  (∀ (lF : Nat) (e : PeerEntry) (ps : List PeerEntry),
    ps.Pairwise (fun a b => a.number < b.number) → ps.length ≤ 16 →
    ((∃ p ∈ ps, p.number = e.number) ∨ ps.length < 16 →
      ∃ qs, writePeer lF e ps = some qs ∧ qs.Pairwise (fun a b => a.number < b.number) ∧
        ∀ q, q ∈ qs ↔ q = e ∨ (q ∈ ps ∧ q.number ≠ e.number)) ∧
    ((∀ p ∈ ps, p.number ≠ e.number) → ps.length = 16 → (∀ p ∈ ps, p.age ≤ lF) →
      writePeer lF e ps = none) ∧
    ((∀ p ∈ ps, p.number ≠ e.number) → ps.length = 16 →
      ∀ d ∈ ps, lF < d.age → (∀ p ∈ ps, p.age ≤ d.age) →
        (∀ p ∈ ps, p.age = d.age → d.number ≤ p.number) →
        ∃ qs, writePeer lF e ps = some qs ∧ qs.length = 16 ∧
          qs.Pairwise (fun a b => a.number < b.number) ∧
          ∀ q, q ∈ qs ↔ q = e ∨ (q ∈ ps ∧ q ≠ d)) ∧
    ((∀ p ∈ ps, p.age < 64) →
      ∀ q, q ∈ agePeers ps ↔ ∃ p ∈ ps, p.age + 1 < 64 ∧ q = { p with age := p.age + 1 })) ∧
  (∀ b e : Nat, branchCompatible b e = true ↔ b = 0 ∨ e = 0 ∨ b = e) ∧
  (∀ s : State,
    let i := s.cfg.image
    s.downstream.Sublist s.peers ∧ s.upstream.Sublist s.peers ∧
    (∀ e, e ∈ s.downstream ↔
      e ∈ s.peers ∧ e.age ≤ i.lF ∧ e.position = i.position + 1 ∧
        branchCompatible i.branch e.branch = true) ∧
    (∀ e, e ∈ s.upstream ↔
      e ∈ s.peers ∧ e.age ≤ i.lF ∧ e.position + 1 = i.position ∧
        branchCompatible i.branch e.branch = true) ∧
    (s.peers.Pairwise (fun a b => a.number < b.number) →
      ∀ e, s.supplyBin = some e ↔
        i.role = .feeder ∧ e ∈ s.upstream ∧ e.role = .bin ∧
          ∀ f ∈ s.upstream, f.role = .bin → e.number ≤ f.number)) ∧
  ∀ s t : State,
    s.peers.Pairwise (fun a b => a.number < b.number) →
    t.peers.Pairwise (fun a b => a.number < b.number) →
    let read (n : Nat) : Prop :=
      (∃ b, s.supplyBin = some b ∧ b.number = n) ∨ ∃ b, t.supplyBin = some b ∧ b.number = n
    let unaltered (before after : List PeerEntry) : Prop :=
      (∀ e ∈ before, ∃ f ∈ after, f.number = e.number) ∧
      (∀ f ∈ after, ∃ e ∈ before, e.number = f.number) ∧
      ∀ e ∈ before, ∀ f ∈ after, f.number = e.number →
        f.runState = e.runState ∧ f.allowance = e.allowance ∧ f.throughput = e.throughput ∧
        (read e.number → f.level = e.level)
    (neighboursChanged s t = false ↔
      unaltered s.downstream t.downstream ∧ unaltered s.upstream t.upstream)

/-! ### Shared operations of the run-state controller -/

/-- A trip: no effect in OFFLINE and TRIPPED; elsewhere TRIPPED with the cause, the RSC's other items
cleared, event TRIP, every chain and request but ORDER_GAP dropped with the fault slot, the ALE zeroed when
it was computing, and an early telegram (R12, R61, R84, R102, R103, R151, R158). -/
def Obligations.TripTaken : Prop :=
  ∀ (s : State) (c : TripCause),
    (s.rsc.runState = .offline ∨ s.rsc.runState = .tripped → s.trip c = s) ∧
    (s.rsc.runState ≠ .offline → s.rsc.runState ≠ .tripped →
      (s.trip c).rsc = { Rsc.reset with runState := .tripped, tripCause := some c } ∧
      (s.trip c).evu.events = s.evu.events ||| BitVec.twoPow 20 9 ∧
      (s.trip c).mve.active = none ∧ (s.trip c).mve.stack = [] ∧ (s.trip c).mve.parked = none ∧
      (s.trip c).mve.requests = { RequestSet.empty with orderGap := s.mve.requests.orderGap } ∧
      (s.trip c).mve.settleTimer = .stopped ∧ (s.trip c).mve.recordTimer = .stopped ∧
      s.mve.SameTable (s.trip c).mve ∧
      (s.rsc.runState.isTurning = true → (s.trip c).ale = { Ale.reset with cap := s.ale.cap }) ∧
      (s.rsc.runState.isTurning = false → (s.trip c).ale = s.ale) ∧
      (s.rsc.runState.inGroup = true → (s.trip c).cwu.attempts = 0) ∧
      (s.cfg.image.role = .crusher → (s.trip c).cwu.secondsTimer = .stopped) ∧
      s.cwu.SameRecords (s.trip c).cwu ∧ (s.trip c).lbi = s.early.lbi ∧
      (s.trip c).mfe = s.mfe ∧ s.Keeps (s.trip c))

/-- A change of the hold set: none outside the running group; inside it RUNNING and HOLDING follow the set and
STOPPING stays, the ALE zeroes when the set becomes non-empty, and an early telegram reports it (R12, R61,
R91, R92); the REDUCE settle test follows where A changed (R128). At the end of an operation the causes MOVE,
MOVE_FAULT and TRAMP are brought to what the active record, the fault slot and the clearing say, and the
others are kept (R136, R146; the net change: log entry 29). -/
def Obligations.HoldSetChanged : Prop :=
  ∀ (s : State) (h : HoldSet),
    (s.syncHold =
      s.setHold
        { s.rsc.hold with
          move := decide (s.mve.feed = .stop)
          moveFault := s.mve.parked.isSome
          tramp := decide (s.cwu.attempts ≠ 0) }) ∧
    (s.rsc.runState.inGroup = true ↔
      s.rsc.runState = .running ∨ s.rsc.runState = .holding ∨ s.rsc.runState = .stopping) ∧
    (s.rsc.runState.isTurning = true ↔
      s.rsc.runState = .running ∨ s.rsc.runState = .holding) ∧
    (s.rsc.coherent →
    (s.changeHold h =
      if (s.setHold h).ale.a = s.ale.a then s.setHold h else (s.setHold h).reduceTest) ∧
    (s.rsc.runState.inGroup = false ∨ s.rsc.hold = h → s.setHold h = s) ∧
    (s.rsc.runState.inGroup = true → s.rsc.hold ≠ h →
      (s.setHold h).rsc =
        { s.rsc with
          hold := h
          runState :=
            if s.rsc.runState = .stopping then .stopping
            else if h = HoldSet.empty then .running
            else .holding } ∧
      (s.rsc.hold = HoldSet.empty → (s.setHold h).ale = { Ale.reset with cap := s.ale.cap }) ∧
      (s.rsc.hold ≠ HoldSet.empty → (s.setHold h).ale = s.ale) ∧
      (s.setHold h).mve = s.mve ∧
      (s.setHold h).cwu = { s.cwu with secondsTimer := (s.setHold h).cwu.secondsTimer } ∧
      (s.setHold h).lbi = s.early.lbi ∧ (s.setHold h).evu = s.evu ∧
      (s.setHold h).mfe = s.mfe ∧ s.Keeps (s.setHold h)))

/-- What the RSC evaluates on a neighbour notice and at a period expiry. In the running group: the DOWNSTREAM
cause, the interlock timer, and in STOPPING the drain timer; in WAIT_DOWNSTREAM: the proceed condition;
elsewhere nothing. A timer whose condition holds goes on from its earlier start, or starts where it stood
still; one whose condition does not hold stops. A station that proceeds enters SPIN_UP with its timer, and
without feedback to wait for the running group (R28, R83, R87, R89, R95, R96, R99). -/
def Obligations.LineEvaluated : Prop :=
  ∀ s : State,
    let idleBelow :=
      s.cfg.image.role ≠ .bin ∧ s.cfg.image.terminal = false ∧
        ∀ e ∈ s.downstream, e.runState ≠ .running ∧ e.runState ≠ .holding
    let drained :=
      (∀ e ∈ s.upstream, e.runState ≠ .running ∧ e.runState ≠ .holding) ∧
        s.mfe.q ≤ s.cfg.image.qIdle
    let kept (old : Timer) : Timer := if old = .stopped then .running 0 else old
    let held := s.setHold { s.rsc.hold with downstream := s.downstreamCause }
    let spinning : State :=
      { s with
        rsc :=
          { s.rsc with
            startTimer := .stopped
            subPhase := some .spinUp
            spinTimer := .running 0 } }
    (∀ old : Timer, old.start = kept old) ∧
    (s.drainCondition = true ↔ drained) ∧
    (s.evaluateDrain =
      if s.rsc.runState = .stopping then
        { s with
          rsc :=
            { s.rsc with
              drainTimer := if s.drainCondition then kept s.rsc.drainTimer else .stopped } }
      else s) ∧
    (s.proceed =
      if s.cfg.image.noFeedback = true ∨ s.mfe.runFbIn = true then spinning.enterGroup
      else spinning) ∧
    (s.rsc.runState.inGroup = true →
      s.evaluateLine =
        { held with
          rsc :=
            { held.rsc with
              interlockTimer := s.evaluateLine.rsc.interlockTimer
              drainTimer := s.evaluateLine.rsc.drainTimer } }) ∧
    (s.rsc.runState.inGroup = true →
      s.evaluateLine.rsc.hold = { s.rsc.hold with downstream := s.downstreamCause } ∧
      (s.rsc.runState.isTurning = true →
        (s.evaluateLine.rsc.interlockTimer.isRunning = true ↔ idleBelow) ∧
        (idleBelow → s.evaluateLine.rsc.interlockTimer = kept s.rsc.interlockTimer) ∧
        (¬idleBelow → s.evaluateLine.rsc.interlockTimer = .stopped) ∧
        s.evaluateLine.rsc.drainTimer = s.rsc.drainTimer) ∧
      (s.rsc.runState = .stopping →
        s.evaluateLine.rsc.interlockTimer = .stopped ∧
        (s.evaluateLine.rsc.drainTimer.isRunning = true ↔ drained) ∧
        (drained → s.evaluateLine.rsc.drainTimer = kept s.rsc.drainTimer) ∧
        (¬drained → s.evaluateLine.rsc.drainTimer = .stopped)) ∧
      s.evaluateLine.mve = s.mve ∧ s.evaluateLine.mfe = s.mfe ∧ s.evaluateLine.evu = s.evu ∧
      s.Keeps s.evaluateLine) ∧
    (s.rsc.runState.inGroup = false →
      (s.rsc.runState = .starting → s.rsc.subPhase = some .waitDownstream → s.proceeds = true →
        s.evaluateLine = s.proceed) ∧
      (s.rsc.runState ≠ .starting ∨ s.rsc.subPhase ≠ some .waitDownstream ∨ s.proceeds = false →
        s.evaluateLine = s)) ∧
    (s.downstreamCause = true ↔
      s.cfg.image.role ≠ .bin ∧
      ((s.downstream = [] ∧ s.cfg.image.terminal = false) ∨
        ((∃ e ∈ s.downstream, e.runState = .holding) ∧
          ∀ e ∈ s.downstream, e.runState ≠ .running))) ∧
    (s.proceeds = true ↔
      s.cfg.image.terminal = true ∨
      (s.downstream ≠ [] ∧ ∀ e ∈ s.downstream, e.runState = .running))

/-! ### The period expiry -/

/-- PERIOD_EXPIRY takes the parts of the LBI, the peer table, the MFE, the ALE and the RSC once each, in an
order that the model leaves open, and then the REDUCE settle test; the period timer starts again. The RSC's
part evaluates the line (R6, R8, R26, R44, R60, R87, R95, R96, R99, R128; a timer that does not run, the order
and the test: log entries 3, 5 and 9). -/
def Obligations.PeriodExpiryTakesEveryPart : Prop :=
  ∀ s : State,
    s.expiryPart .runState = s.evaluateLine ∧
    (s.cfg.held = false →
    (s.lbi.periodTimer = .stopped → exec .periodExpiry s = .next s.drive) ∧
    (s.lbi.periodTimer ≠ .stopped →
      ∃ order : List ExpiryPart,
        order.Perm [.lbi, .ageing, .measure, .allowance, .runState] ∧
        ∃ t, exec .periodExpiry s = .next t ∧
          t =
            ((order.foldl State.expiryPart
                { s with
                  lbi := { s.lbi with periodTimer := .running 0 }
                  draws := s.draws + 1 }).reduceTest).drive ∧
          t.peers = agePeers s.peers ∧ t.echo = s.echo ∧ t.cfg = s.cfg ∧
          t.pending = s.pending))

/-- The LBI's part: the period's telegram is queued or replaces the one that waits, the silent-period count
saturates at 8 and the duplicate-quiet count at 2, and the step to 8 raises BUS_SILENT, which trips a
station of the running group that selects it. The table's part: ageing, and where D
or U changed the RSC evaluates the line and then the MVE the STOP settle test (R8, R16, R18, R26, R28, R189;
the notice, and the trip after the counts: log entries 17, 26 and 34). -/
def Obligations.PeriodCountsAndAges : Prop :=
  ∀ s : State,
    let l : Lbi :=
      { s.lbi with
        tx := if s.sends = true ∧ s.lbi.tx = .idle then .waitIdle else s.lbi.tx
        attempts := if s.sends = true ∧ s.lbi.tx ≠ .sending then 0 else s.lbi.attempts
        silent := min 8 (s.lbi.silent + 1)
        dupQuiet := min 2 (s.lbi.dupQuiet + 1) }
    (s.lbi.silent ≠ 7 → s.expiryPart .lbi = { s with lbi := l }) ∧
    (s.lbi.silent = 7 →
      (s.cfg.image.tripMask.has .busSilent = false ∨ s.rsc.runState.inGroup = false →
        s.expiryPart .lbi =
          { s with lbi := l, evu := ⟨s.evu.events ||| BitVec.twoPow 20 13⟩ }) ∧
      (s.cfg.image.tripMask.has .busSilent = true → s.rsc.runState.inGroup = true →
        s.expiryPart .lbi =
          State.trip
            { s with lbi := l, evu := ⟨s.evu.events ||| BitVec.twoPow 20 13⟩ } .selected)) ∧
    (s.expiryPart .ageing).peers = agePeers s.peers ∧
    (neighboursChanged s { s with peers := agePeers s.peers } = false →
      s.expiryPart .ageing = { s with peers := agePeers s.peers }) ∧
    (neighboursChanged s { s with peers := agePeers s.peers } = true →
      s.expiryPart .ageing =
        (State.evaluateLine { s with peers := agePeers s.peers }).stopTest)

/-- The MFE's part: the pulse count enters the window, the watchdog counts a RUNNING period with feed and no
pulse, and Q comes from the window or from the estimate of the role; the sixteenth count loses the scale,
raises SCALE_LOST and after the third step trips a station of the running group that selects it (R44, R45,
R46, R47, R49, R50, R51, R189; the trip after step 3: log entry 26). -/
def Obligations.PeriodMeasures : Prop :=
  ∀ s : State,
    let window := s.mfe.window.drop 1 ++ [s.mfe.pulses]
    let scaleQ := min 4000 (window.sum * s.cfg.image.w * 3600 / (16 * s.cfg.image.tB))
    let feeding :=
      (s.cfg.image.role = .feeder ∧ 0 < s.ale.u) ∨
        (s.cfg.image.role = .crusher ∧ s.cfg.image.pIdle ≤ s.mfe.load)
    let count := if s.rsc.runState = .running ∧ feeding then s.mfe.watchdog + 1 else s.mfe.watchdog
    let lost : Mfe :=
      { s.mfe with
        window := window
        pulses := 0
        watchdog := 0
        source := .estimate
        q := s.estimate
        estimated := true }
    (s.mfe.source = .estimate → s.expiryPart .measure = { s with mfe := lost }) ∧
    (s.mfe.source = .scale → count < 16 →
      s.expiryPart .measure =
        { s with
          mfe :=
            { s.mfe with
              window := window
              pulses := 0
              watchdog := count
              q := scaleQ
              estimated := false } }) ∧
    (s.mfe.source = .scale → 16 ≤ count →
      (s.cfg.image.tripMask.has .scaleLost = false ∨ s.rsc.runState.inGroup = false →
        s.expiryPart .measure =
          { s with mfe := lost, evu := ⟨s.evu.events ||| BitVec.twoPow 20 3⟩ }) ∧
      (s.cfg.image.tripMask.has .scaleLost = true → s.rsc.runState.inGroup = true →
        s.expiryPart .measure =
          State.trip
            { s with mfe := lost, evu := ⟨s.evu.events ||| BitVec.twoPow 20 3⟩ } .selected)) ∧
    (s.cfg.image.role = .feeder → s.estimate = s.ale.u * s.cfg.image.fMax / 1000) ∧
    (s.cfg.image.role = .crusher →
      s.estimate =
        min 4000
          (((s.upstream.filter fun e => e.runState == .running).map PeerEntry.throughput).sum)) ∧
    (s.cfg.image.role = .bin →
      s.estimate = min 4000 ((s.upstream.map PeerEntry.throughput).sum))

/-- The ALE's part: it computes in RUNNING, with feed condition STOP as in HOLDING, zeroes in HOLDING, and
keeps its values in every other run state. The feed condition is that of the active record, STOP for a TOUCH,
and NONE with no chain active (R60, R61, R69, R118). -/
def Obligations.AllowanceActsByRunState : Prop :=
  ∀ s : State,
    (s.mve.active = none → s.mve.feed = .none) ∧
    (∀ c, s.mve.active = some c →
      s.mve.feed = if c.record.kind = .touch then .stop else c.record.feed) ∧
    (s.expiryPart .allowance =
      { s with
        ale := (s.expiryPart .allowance).ale
        mve := { s.mve with aleActed := true } }) ∧
    (s.rsc.runState = .holding ∨ (s.rsc.runState = .running ∧ s.mve.feed = .stop) →
      (s.expiryPart .allowance).ale = { Ale.reset with cap := s.ale.cap }) ∧
    (s.rsc.runState ≠ .holding → s.rsc.runState ≠ .running →
      (s.expiryPart .allowance).ale = s.ale) ∧
    (s.rsc.runState = .running → s.mve.feed ≠ .stop →
      (s.cfg.image.role = .crusher → (s.expiryPart .allowance).ale = s.computeCrusher) ∧
      (s.cfg.image.role = .feeder → (s.expiryPart .allowance).ale = s.computeFeeder) ∧
      (s.cfg.image.role = .bin → (s.expiryPart .allowance).ale = s.computeBin))

/-- A CRUSHER's computation: gap, power and level term, the least of them as its own allowance, reduced under
REDUCE, and the least of that and the downstream allowance, named by the first candidate that equals it. -/
def Obligations.CrusherAllowance : Prop :=
  ∀ s : State, s.mve.feed ≠ .stop → s.cfg.image.rRed ≤ 1000 →
    let i := s.cfg.image
    let cGap := min 4000 (i.kc * (if s.mfe.gapValid then s.mfe.gap else s.mve.gSet) / 100)
    let cPow := if i.pIdle ≤ s.mfe.load then min 4000 (s.mfe.q * i.pLim / s.mfe.load) else 4000
    let cLvl : Nat :=
      (max 0
        (min 4000
          ((s.mfe.q : Int) +
            Int.tdiv ((i.kl : Int) * ((i.lSet : Int) - (s.mfe.level : Int))) 16))).toNat
    let own :=
      if s.mve.feed = Feed.reduce then min cGap (min cPow cLvl) * i.rRed / 1000
      else min cGap (min cPow cLvl)
    let aDn :=
      if i.terminal then i.aTerm
      else
        min 4000
          (((s.downstream.filter fun e => e.runState == .running).map PeerEntry.allowance).sum)
    s.computeCrusher =
      { s.ale with a := min own aDn, term := s.computeCrusher.term, supply := false } ∧
    (([(LimitTerm.gap, cGap), (LimitTerm.power, cPow), (LimitTerm.level, cLvl)] ++
        (if s.mve.feed = Feed.reduce then [(LimitTerm.move, own)] else []) ++
        [(if i.terminal then LimitTerm.terminal else LimitTerm.downstream, aDn)]).find?
      fun p => p.2 == min own aDn) = some (s.computeCrusher.term, min own aDn)

/-- A FEEDER's computation: the cap term, or 0 while the supply bin is at or below L_low, reduced under
REDUCE, and the least of that and the downstream allowance, named by the first candidate that equals it;
the supply flag records the test, and the feed command follows the allowance. The cap of the feed command is the
argument of the active record when that is a RATE_FOR. -/
def Obligations.FeederAllowance : Prop :=
  ∀ s : State,
    (s.mve.active = none → s.mve.rateCap = none) ∧
    (∀ c, s.mve.active = some c →
      s.mve.rateCap =
        if c.record.kind = .rateFor then some c.record.argument.toNat else none) ∧
    (s.mve.feed ≠ .stop → s.cfg.image.rRed ≤ 1000 →
    let i := s.cfg.image
    let cap := i.fMax * s.ale.cap / 1000
    let low := s.computeFeeder.supply
    let own :=
      if low then 0 else if s.mve.feed = Feed.reduce then cap * i.rRed / 1000 else cap
    let aDn :=
      if i.terminal then i.aTerm
      else
        min 4000
          (((s.downstream.filter fun e => e.runState == .running).map PeerEntry.allowance).sum)
    let f := feedCommand i s.mve.rateCap s.ale.u (min own aDn) s.ale.residue
    (low = true ↔ ((s.supplyBin.bind PeerEntry.level).any fun l => decide (l ≤ i.lLow)) = true) ∧
    s.computeFeeder =
      { s.ale with
        a := min own aDn
        term := s.computeFeeder.term
        u := f.u
        residue := f.residue
        supply := low } ∧
    (([(LimitTerm.cap, cap)] ++ (if low then [(LimitTerm.supply, 0)] else []) ++
        (if s.mve.feed = Feed.reduce then [(LimitTerm.move, own)] else []) ++
        [(if i.terminal then LimitTerm.terminal else LimitTerm.downstream, aDn)]).find?
      fun p => p.2 == min own aDn) = some (s.computeFeeder.term, min own aDn))

/-- The feed command: 0 for an allowance of 0; otherwise division with the residue, full speed, minimum
speed, ramp and the cap of a RATE_FOR; the residue survives only when the command is the divided value. -/
def Obligations.FeedCommandSteps : Prop :=
  ∀ (i : Image) (cap : Option Nat) (uPrev a residue : Nat), i.uMin ≤ 500 →
    let f := feedCommand i cap uPrev a residue
    let raw := (a * 1000 + residue) / i.fMax
    let v4 := if 0 < raw ∧ raw < i.uMin then i.uMin else min raw 1000
    let v5 := min v4 (max (uPrev + i.duUp) i.uMin)
    (a = 0 → f = ⟨0, 0⟩) ∧
    (0 < a →
      (cap = none → f.u = v5) ∧
      (∀ c, cap = some c →
        (v5 ≤ c → f.u = v5) ∧ (c < v5 → i.uMin ≤ c → f.u = c) ∧
        (c < v5 → c < i.uMin → f.u = 0)) ∧
      f.residue = (if f.u = raw then (a * 1000 + residue) % i.fMax else 0))

/-- A BIN's computation: the stock error, the space rate, and their sum with the downstream allowance,
clamped; SPACE or DOWNSTREAM; under REDUCE the reduced allowance, named MOVE when it is strictly below. -/
def Obligations.BinAllowance : Prop :=
  ∀ s : State, s.mve.feed ≠ .stop →
    let i := s.cfg.image
    let stock := Int.tdiv (((i.lTgt : Int) - (s.mfe.level : Int)) * (i.mBin : Int)) 1000
    let rate := Int.tdiv (stock * 3600) (i.tH : Int)
    let aDn : Nat :=
      if i.terminal then i.aTerm
      else
        min 4000
          (((s.downstream.filter fun e => e.runState == .running).map PeerEntry.allowance).sum)
    let a := (max 0 (min 4000 ((aDn : Int) + rate))).toNat
    let term :=
      if rate < 0 ∨ (aDn : Int) + rate < 0 then LimitTerm.space else LimitTerm.downstream
    (s.mve.feed = .none → s.computeBin = { s.ale with a := a, term := term, supply := false }) ∧
    (s.mve.feed = .reduce →
      s.computeBin =
        { s.ale with
          a := a * i.rRed / 1000
          term := if a * i.rRed / 1000 < a then LimitTerm.move else term
          supply := false })

/-! ### The move engine -/

/-- A load: a record that does not suit the role, or that neither stops nor names a next slot, faults
INVALID; otherwise the working copy is formed, with the target of a gap record within g_min..g_max, LIMIT
for a clipped GAP_BY, and SENSOR for a GAP_BY without a valid gap (R114, R115, R116, R117, R118, R126, R135;
times: log entry 6). -/
def Obligations.RecordLoads : Prop :=
  ∀ (s : State) (c : Context),
    (∀ n r, s.mve.table[n]? = some r → s.mve.record n = r) ∧
    s.setActive c = { s with mve := { s.mve with active := some c } } ∧
    (∀ k : EventKind,
      s.raise k = { s with evu := ⟨s.evu.events ||| BitVec.twoPow 20 k.bit⟩ }) ∧
    (s.cfg.image.gMin < s.cfg.image.gMax →
    let i := s.cfg.image
    let r := s.mve.record c.slot
    let c1 : Context :=
      { c with record := r, work := .none, phase := .load, redrives := 0, status := .new }
    let suited :=
      (r.kind = .gapTo ∨ r.kind = .gapBy ∨ r.kind = .touch → i.role = .crusher) ∧
        (r.kind = .rateFor → i.role = .feeder) ∧ (r.stop = true ∨ r.next ≠ 0)
    let wanted := if r.targetSource = .absolute then r.argument.toNat else s.mve.gSet
    let target := max i.gMin (min i.gMax wanted)
    let sum := (s.mfe.gap : Int) + (if c.mirror then -r.argument else r.argument)
    let clipped := sum < (i.gMin : Int) ∨ (i.gMax : Int) < sum
    (¬suited → s.loadActive c = (s.setActive c1, some .invalid)) ∧
    (suited →
      (r.kind = .dwell →
        s.loadActive c =
          (s.setActive
            { c1 with work := .timed (r.argument.toNat * 250000), phase := .running }, none)) ∧
      (r.kind = .rateFor →
        s.loadActive c =
          (s.setActive { c1 with work := .timed (r.timeout * 250000), phase := .running },
            none)) ∧
      (r.kind = .gapTo →
        s.loadActive c =
          (s.setActive c1).enterGap
            { c1 with
              work :=
                .gap target
                  (if s.mfe.gapValid = true ∧ target < s.mfe.gap then .closing else .opening) }) ∧
      (r.kind = .gapBy → s.mfe.gapValid = false →
        s.loadActive c = (s.setActive c1, some .sensor)) ∧
      (r.kind = .gapBy → s.mfe.gapValid = true →
        s.loadActive c =
          (if clipped then (s.setActive c1).raise .limit else s.setActive c1).enterGap
            { c1 with
              work :=
                .gap (max (i.gMin : Int) (min (i.gMax : Int) sum)).toNat
                  (if r.argument < 0 then .closing else .opening) }) ∧
      (r.kind = .touch →
        s.loadActive c = (s.setActive c1).enterGap { c1 with work := .touch })))

/-- The first phase and the drive decision: NONE decides at once, REDUCE waits in SETTLE, STOP waits unless
every upstream member is stopped or shows no throughput and the load is at most P_idle; the decision needs a
valid gap, compares it with the target and the deadband, lowers for a TOUCH, and starts the record timer when
it is the first; the settle tests of an active record end SETTLE. A load or a drive decision that ends with a
fault status faults the active record (R114, R118, R126, R127, R128, R130, R146, R160). -/
def Obligations.PhasesEntered : Prop :=
  ∀ (s : State) (c : Context) (restart : Bool),
    let waiting : State :=
      { s with
        mve :=
          { s.mve with
            active := some { c with phase := .settle }
            settleTimer := .running 0
            aleActed := false } }
    let settled :=
      (∀ e ∈ s.upstream,
        e.runState = .ready ∨ e.runState = .offline ∨ e.runState = .tripped ∨
          e.runState = .stopping ∨ e.throughput = 0) ∧
        s.mfe.load ≤ s.cfg.image.pIdle
    let decided (p : Phase) : Loaded :=
      ({ s with
          cwu :=
            if c.record.kind = .touch then
              { s.cwu with loadCount := 0, stillCount := 0, reference := none }
            else s.cwu
          mve :=
            { s.mve with
              active := some { c with phase := p }
              recordTimer := if restart then .running 0 else s.mve.recordTimer } },
        none)
    (c.feed = .none → s.enterGap c = (s.setActive c).driveDecision c true) ∧
    (c.feed = .reduce → s.enterGap c = (waiting, none)) ∧
    (c.feed = .stop →
      (¬settled → s.enterGap c = (waiting, none)) ∧
      (settled →
        s.enterGap c =
          State.driveDecision
            { waiting with mve := { waiting.mve with settleTimer := .stopped } }
            { c with phase := .settle } true)) ∧
    (s.mfe.gapValid = false → s.driveDecision c restart = (s, some .sensor)) ∧
    (s.mfe.gapValid = true →
      (∀ target sense, c.work = .gap target sense →
        (s.mfe.gap + s.cfg.image.db < target →
          s.driveDecision c restart = decided (.drive .raise)) ∧
        (target + s.cfg.image.db < s.mfe.gap →
          s.driveDecision c restart = decided (.drive .lower)) ∧
        (target ≤ s.mfe.gap + s.cfg.image.db → s.mfe.gap ≤ target + s.cfg.image.db →
          s.driveDecision c restart = decided (.verify 0))) ∧
      (c.work = .touch → s.driveDecision c restart = decided (.drive .lower))) ∧
    (s.mve.active = some c →
      let left := State.driveDecision { s with mve := { s.mve with settleTimer := .stopped } } c true
      (c.phase = .settle → c.feed = .reduce → s.mve.aleActed = true → s.mfe.q ≤ s.ale.a →
        s.reduceTest = left.finish.syncHold) ∧
      (c.phase ≠ .settle ∨ c.feed ≠ .reduce ∨ s.mve.aleActed = false ∨ s.ale.a < s.mfe.q →
        s.reduceTest = s) ∧
      (c.phase = .settle → c.feed = .stop → settled → s.stopTest = left.finish.syncHold) ∧
      (c.phase ≠ .settle ∨ c.feed ≠ .stop ∨ ¬settled → s.stopTest = s)) ∧
    (s.mve.active = none → s.reduceTest = s ∧ s.stopTest = s) ∧
    (c.feed = if c.record.kind = .touch then .stop else c.record.feed) ∧
    (c.feed ≠ .stop ∨ ¬settled → s.enterSettle c = (waiting, none)) ∧
    (c.feed = .stop → settled →
      s.enterSettle c =
        State.driveDecision
          { waiting with mve := { waiting.mve with settleTimer := .stopped } }
          { c with phase := .settle } true) ∧
    (∀ t : State, Loaded.finish (t, none) = t) ∧
    ∀ (t : State) (f : FaultStatus), Loaded.finish (t, some f) = t.fault f

/-- A selection takes part only in the running group with no chain active. The highest pending request is
granted when it lies above the stack top, otherwise the top resumes; with a fault parked only TRAMP is
granted; a level's token decides between its two requesters and flips at a grant; a request above the active
chain pre-empts it. TRAMP has priority 3, OVERLOAD 2, ORDER_GAP and CALIBRATE 1, START and SCHEDULE 0; a chain
starts at its requester's head with the mirror bit, that of ORDER_GAP at slot 0 with a clear one (R111, R113,
R138, R139, R140, R141, R144). -/
def Obligations.ArbiterSelects : Prop :=
  ∀ s : State,
    (s.rsc.runState.inGroup = false ∨ s.mve.active.isSome = true → s.select = s) ∧
    (s.rsc.runState.inGroup = true → s.mve.active = none →
      (s.mve.parked.isSome = true →
        (s.mve.requests.tramp = false → s.select = s) ∧
        (s.mve.requests.tramp = true →
          ((s.grant .tramp).2 = none → s.select = (s.grant .tramp).1) ∧
          ((s.grant .tramp).2 ≠ none → s.select = (s.grant .tramp).1.faultHigh))) ∧
      (s.mve.parked = none →
        (∀ r, s.mve.bestRequest = some r →
          (s.mve.stack.getLast?.all fun c => decide (c.requester.priority < r.priority)) = true →
          s.select = (s.grant r).finish) ∧
        (∀ c, s.mve.stack.getLast? = some c →
          (s.mve.bestRequest.all fun r => decide (r.priority ≤ c.requester.priority)) = true →
          s.select =
            (State.resume { s with mve := { s.mve with stack := s.mve.stack.dropLast } }
              c).finish) ∧
        (s.mve.bestRequest = none → s.mve.stack = [] → s.select = s))) ∧
    (s.mve.bestRequest = none ↔ s.mve.requests = RequestSet.empty) ∧
    (∀ r, s.mve.bestRequest = some r →
      s.mve.requests.has r = true ∧
      (∀ q : Requester, s.mve.requests.has q = true → q.priority ≤ r.priority) ∧
      (s.mve.requests.orderGap = true → s.mve.requests.calibrate = true → r.priority = 1 →
        (r = .orderGap ↔ s.mve.tokenHigh = .orderGap)) ∧
      (s.mve.requests.start = true → s.mve.requests.schedule = true → r.priority = 0 →
        (r = .start ↔ s.mve.tokenLow = .start))) ∧
    (∀ r : Requester,
      s.grant r =
        State.loadActive
          { s with
            mve :=
              { s.mve with
                requests := s.mve.requests.put false r
                tokenHigh :=
                  if r = .orderGap then .calibrate
                  else if r = .calibrate then .orderGap
                  else s.mve.tokenHigh
                tokenLow :=
                  if r = .start then .schedule
                  else if r = .schedule then .start
                  else s.mve.tokenLow } }
          (newContext r (s.cfg.image.head r)) ∧
      (s.mve.active = none → s.grantPoint r = s.select) ∧
      ∀ c, s.mve.active = some c →
        (r.priority ≤ c.requester.priority → s.grantPoint r = s) ∧
        (c.requester.priority < r.priority →
          s.grantPoint r =
            (State.grant
              { s with
                mve :=
                  { s.mve with
                    active := none
                    stack := s.mve.stack ++ [c.suspend]
                    settleTimer := .stopped
                    recordTimer := .stopped }
                cwu := { s.cwu with loadCount := 0, stillCount := 0, reference := none } }
              r).finish)) ∧
    [Requester.tramp, .overload, .orderGap, .calibrate, .start, .schedule].map Requester.priority =
      [3, 2, 1, 1, 0, 0] ∧
    [Requester.tramp, .overload, .orderGap, .calibrate, .start, .schedule].map s.cfg.image.head =
      [s.cfg.image.headTramp, s.cfg.image.headOverload, ⟨0, false⟩, s.cfg.image.headCalibrate,
        s.cfg.image.headStart, s.cfg.image.headSchedule] ∧
    (∀ q : RequestSet,
      [Requester.tramp, .overload, .orderGap, .calibrate, .start, .schedule].map q.has =
        [q.tramp, q.overload, q.orderGap, q.calibrate, q.start, q.schedule]) ∧
    (∀ (q : RequestSet) (b : Bool) (r : Requester),
      ∀ p : Requester, (q.put b r).has p = if p = r then b else q.has p) ∧
    ∀ (r : Requester) (h : Head),
      (newContext r h).requester = r ∧ (newContext r h).mirror = h.mirror ∧
      (newContext r h).slot = h.slot ∧ (newContext r h).executed = 0

/-- A suspended context keeps its requester, mirror bit, slot, counts, record and working copy, and its phase
without the VERIFY count. It resumes at the drive decision when it was saved in DRIVE or VERIFY, in SETTLE
when it was saved there or is a TOUCH, and goes on counting down its remaining time otherwise (R143, R144). -/
def Obligations.ContextResumes : Prop :=
  ∀ (s : State) (c : Context),
    let c1 := { c with status := .new }
    (c.suspend.status = .suspended ∧ c.suspend.requester = c.requester ∧
      c.suspend.mirror = c.mirror ∧ c.suspend.slot = c.slot ∧
      c.suspend.executed = c.executed ∧ c.suspend.record = c.record ∧ c.suspend.work = c.work ∧
      c.suspend.redrives = c.redrives ∧
      (∀ n, c.phase = .verify n → c.suspend.phase = .verify 0) ∧
      ((∀ n, c.phase ≠ .verify n) → c.suspend.phase = c.phase)) ∧
    (c.record.kind = .gapTo ∨ c.record.kind = .gapBy →
      (c.phase = .drive .raise ∨ c.phase = .drive .lower ∨ c.phase = .verify 0 →
        s.resume c = (s.setActive c1).driveDecision c1 true) ∧
      (c.phase = .settle → s.resume c = (s.setActive c1).enterSettle c1)) ∧
    (c.record.kind = .touch → s.resume c = (s.setActive c1).enterSettle c1) ∧
    (c.record.kind = .dwell ∨ c.record.kind = .rateFor → s.resume c = (s.setActive c1, none))

/-- A fault of the active record: at priority 3 the station trips with CHAIN_FAULT_HIGH; below it the
context is parked with its status and MOVE_FAULT is raised, and only a pending TRAMP is then granted (R139,
R146, R147). -/
def Obligations.FaultParksOrTrips : Prop :=
  ∀ (s : State) (f : FaultStatus),
    (s.mve.active = none → s.fault f = s) ∧
    ∀ c, s.mve.active = some c →
      let quiet : State :=
        { s with
          mve := { s.mve with active := none, settleTimer := .stopped, recordTimer := .stopped }
          cwu := { s.cwu with loadCount := 0, stillCount := 0, reference := none } }
      let parked : State :=
        { quiet with
          mve := { quiet.mve with parked := some { c with status := .fault f } }
          evu := ⟨s.evu.events ||| BitVec.twoPow 20 5⟩ }
      (c.requester = .tramp → s.fault f = quiet.trip .chainFaultHigh) ∧
      (c.requester ≠ .tramp →
        (s.mve.requests.tramp = false ∨ s.rsc.runState.inGroup = false → s.fault f = parked) ∧
        (s.mve.requests.tramp = true → s.rsc.runState.inGroup = true →
          ((parked.grant .tramp).2 = none → s.fault f = (parked.grant .tramp).1) ∧
          ((parked.grant .tramp).2 ≠ none → s.fault f = (parked.grant .tramp).1.faultHigh)))

/-- A completion: update mode steps the stored GAP_TO and stops at a limit, CHAIN_NOTIFY for a notify or stop
record, then the end of the chain, the load of the next slot, or at the 64th record the fault LOOP. The end of
a tramp chain first goes to the CWU: with the relief open a first or second run is followed by another and a
third one trips; with it closed the clearing goes on while a run is pending and otherwise ends (R119, R120,
R121, R122, R145, R157). -/
def Obligations.RecordCompletes : Prop :=
  ∀ (s : State) (c : Context), s.cfg.image.gMin < s.cfg.image.gMax →
    let i := s.cfg.image
    let r := s.mve.record c.slot
    let sum := r.argument + r.step
    let inside := (i.gMin : Int) ≤ sum ∧ sum ≤ (i.gMax : Int)
    let stepped : MoveRecord :=
      { r with
        argument := max (i.gMin : Int) (min (i.gMax : Int) sum)
        update := if inside then r.update else false }
    let base : State :=
      { s with
        mve :=
          { s.mve with
            table :=
              if c.record.kind = .gapTo ∧ r.update = true then s.mve.table.set c.slot stepped
              else s.mve.table
            settleTimer := .stopped
            recordTimer := .stopped }
        cwu := { s.cwu with loadCount := 0, stillCount := 0, reference := none }
        evu :=
          if c.record.notify = true ∨ c.record.stop = true then
            ⟨s.evu.events ||| BitVec.twoPow 20 14⟩
          else s.evu }
    let idle : State := { base with mve := { base.mve with active := none } }
    let next : Context := { c with executed := c.executed + 1, slot := c.record.next }
    (s.cwu.attempts ≠ 0 →
      (s.mfe.trampIn = true → s.cwu.attempts < 3 →
        s.trampEnd =
          { s with
            cwu := { s.cwu with attempts := s.cwu.attempts + 1 }
            mve := { s.mve with requests := { s.mve.requests with tramp := true } } }) ∧
      (s.mfe.trampIn = true → 3 ≤ s.cwu.attempts → s.trampEnd = s.trip .trampUncleared) ∧
      (s.mfe.trampIn = false → s.mve.requests.tramp = true → s.trampEnd = s) ∧
      (s.mfe.trampIn = false → s.mve.requests.tramp = false →
        s.trampEnd = { s with cwu := { s.cwu with attempts := 0 } })) ∧
    (c.record.stop = true → c.requester ≠ .tramp → s.complete c = idle.select) ∧
    (c.record.stop = true → c.requester = .tramp → s.complete c = idle.trampEnd.select) ∧
    (c.record.stop = false → c.executed + 1 < 64 →
      s.complete c = (base.loadActive next).finish) ∧
    (c.record.stop = false → 64 ≤ c.executed + 1 →
      s.complete c = (base.setActive { next with phase := .load }).fault .loop)

/-! ### Calibration and wear -/

/-- The evaluation of a contact: the wear step from gap zero, a reference calibration on an empty ring, the
jump test against W_jump, then either the new gap zero with CALIBRATED, total wear and perhaps LINER_WORN, or
CAL_REJECTED with the values kept, CAL_SUSPECT after three rejections, and SCHEDULE again; in both cases the
record joins the ring of eight (R162, R163, R164, R165, R166, R167). -/
def Obligations.ContactEvaluated : Prop :=
  ∀ s : State,
    (s.cwu.suspended = true ↔
      3 ≤ s.cwu.ring.length ∧ ∀ r ∈ s.cwu.ring.reverse.take 3, r.accepted = false) ∧
    (s.cwu.ring.length ≤ 8 →
    let i := s.cfg.image
    let w := Int.tdiv (((s.mfe.raw : Int) - (s.cwu.r0 : Int)) * (i.kp : Int)) 256
    let accepted := s.cwu.ring = [] ∨ (-(i.wJump : Int) ≤ w ∧ w ≤ (i.wJump : Int))
    let number := if s.cwu.calNumber = 65535 then 1 else s.cwu.calNumber + 1
    let record (a : Bool) : CalRecord :=
      { number := number, contact := s.mfe.raw, wear := w, hours := s.cwu.hours, accepted := a }
    let ring (a : Bool) :=
      (if s.cwu.ring.length < 8 then s.cwu.ring else s.cwu.ring.tail) ++ [record a]
    let total :=
      if s.cwu.ring = [] then s.cwu.totalWear
      else max (-30000) (min 30000 (s.cwu.totalWear + w))
    let suspect :=
      3 ≤ (ring false).length ∧ ∀ r ∈ (ring false).reverse.take 3, r.accepted = false
    (accepted →
      s.evaluateContact =
        { s with
          cwu :=
            { s.cwu with
              r0 := s.mfe.raw
              calNumber := number
              ring := ring true
              totalWear := total
              due := false
              sinceCal := 0
              selection := 0 }
          mfe :=
            if 1 ≤ s.mfe.raw ∧ s.mfe.raw ≤ 4094 ∧ s.mfe.gapValid = true then
              { s.mfe with gap := 0 }
            else s.mfe
          evu :=
            ⟨s.evu.events ||| BitVec.twoPow 20 15 |||
              (if s.cwu.ring ≠ [] ∧ (i.wMax : Int) ≤ total then BitVec.twoPow 20 18
              else 0#20)⟩ }) ∧
    (¬accepted →
      s.evaluateContact =
        { s with
          cwu := { s.cwu with calNumber := number, ring := ring false, selection := 0 }
          mve :=
            { s.mve with
              requests :=
                { s.mve.requests with
                  schedule :=
                    s.mve.requests.schedule ||
                      decide
                        (s.cwu.due = true ∧ s.rsc.runState.isTurning = true ∧
                          i.headSchedule.slot ≠ 0 ∧ ¬suspect) } }
          evu :=
            ⟨s.evu.events ||| BitVec.twoPow 20 16 |||
              (if suspect then BitVec.twoPow 20 17 else 0#20)⟩ }))

/-! ### Samples -/

/-- SAMPLE_EVENT of LOAD and LEVEL: the saturated value and the condition with its count; a condition that
sets raises its kind; what follows in other blocks is taken in an order that the manual leaves open. In
OFFLINE, and on a channel that the role does not use, nothing happens. What follows: a condition notice
brings the hold cause of its name to the condition and, for an OVERLOAD that is set, in RUNNING and HOLDING
raises the OVERLOAD request of a station with that chain; a selected kind trips in the running group; the
LOAD notice goes to the MVE and the CWU (R38, R39, R53, R54, R93, R189, R190; order, other channels, and the
cause before the request: log entries 4, 9 and 16). -/
def Obligations.LoadAndLevelSamples : Prop :=
  ∀ (s : State) (count : BitVec 12), s.cfg.held = false →
    let i := s.cfg.image
    let load := min 1500 (count.toNat * 3 / 8)
    let level := min 1000 (count.toNat / 4)
    let turnsLoad :=
      4 ≤ s.mfe.overloadCount + 1 ∧
        ((s.mfe.overload = false ∧ i.pOvl ≤ load) ∨ (s.mfe.overload = true ∧ load < i.pLim))
    let goesOnLoad :=
      (s.mfe.overload = false ∧ i.pOvl ≤ load) ∨ (s.mfe.overload = true ∧ load < i.pLim)
    let turnsLevel :=
      2 ≤ s.mfe.levelCount + 1 ∧
        ((s.mfe.levelHigh = false ∧ i.lHigh ≤ level) ∨
          (s.mfe.levelHigh = true ∧ level + 50 < i.lHigh))
    let goesOnLevel :=
      (s.mfe.levelHigh = false ∧ i.lHigh ≤ level) ∨
        (s.mfe.levelHigh = true ∧ level + 50 < i.lHigh)
    let m : Mfe :=
      { s.mfe with
        load := load
        overload := if turnsLoad then !s.mfe.overload else s.mfe.overload
        overloadCount :=
          if turnsLoad then 0 else if goesOnLoad then s.mfe.overloadCount + 1 else 0 }
    let n : Mfe :=
      { s.mfe with
        level := level
        levelHigh := if turnsLevel then !s.mfe.levelHigh else s.mfe.levelHigh
        levelCount :=
          if turnsLevel then 0 else if goesOnLevel then s.mfe.levelCount + 1 else 0 }
    let after (u : State) (acts : List SampleAct) : Prop :=
      ∃ order : List SampleAct, order.Perm acts ∧
        exec (.sampleEvent .load count) s =
          .next ((order.foldl State.act { u with draws := s.draws + 1 }).drive)
    let held := s.changeHold { s.rsc.hold with overload := s.mfe.overload }
    (s.act .overload =
      if s.mfe.overload = true ∧ held.rsc.runState.isTurning = true ∧ i.headOverload.slot ≠ 0 then
        held.request .overload
      else held) ∧
    (s.act .levelHigh = s.changeHold { s.rsc.hold with levelHigh := s.mfe.levelHigh }) ∧
    (∀ k : EventKind,
      s.act (.selected k) =
        if i.tripMask.has k = true ∧ s.rsc.runState.inGroup = true then s.trip .selected else s) ∧
    s.act .load = s.loadNotice ∧
    (s.rsc.runState = .offline ∨ i.role ≠ .crusher →
      exec (.sampleEvent .load count) s = .next s.drive) ∧
    (s.rsc.runState = .offline ∨ i.role = .feeder →
      exec (.sampleEvent .level count) s = .next s.drive) ∧
    (s.rsc.runState ≠ .offline → i.role = .crusher →
      (¬turnsLoad →
        exec (.sampleEvent .load count) s =
          .next (State.loadNotice { s with mfe := m }).drive) ∧
      (turnsLoad → s.mfe.overload = true →
        after { s with mfe := m } [.overload, .load]) ∧
      (turnsLoad → s.mfe.overload = false →
        after { s with mfe := m, evu := ⟨s.evu.events ||| BitVec.twoPow 20 1⟩ }
          ((if i.tripMask.has .overload then [SampleAct.selected .overload] else []) ++
            [.overload, .load]))) ∧
    (s.rsc.runState ≠ .offline → i.role ≠ .feeder →
      (¬turnsLevel →
        exec (.sampleEvent .level count) s = .next (State.drive { s with mfe := n })) ∧
      (turnsLevel → s.mfe.levelHigh = true →
        exec (.sampleEvent .level count) s =
          .next (State.changeHold { s with mfe := n } { s.rsc.hold with levelHigh := false }).drive) ∧
      (turnsLevel → s.mfe.levelHigh = false → i.tripMask.has .levelHigh = false →
        exec (.sampleEvent .level count) s =
          .next
            (State.changeHold
              { s with mfe := n, evu := ⟨s.evu.events ||| BitVec.twoPow 20 2⟩ }
              { s.rsc.hold with levelHigh := true }).drive) ∧
      (turnsLevel → s.mfe.levelHigh = false → i.tripMask.has .levelHigh = true →
        ∃ order : List SampleAct, order.Perm [.selected .levelHigh, .levelHigh] ∧
          exec (.sampleEvent .level count) s =
            .next
              ((order.foldl State.act
                { s with
                  mfe := n
                  evu := ⟨s.evu.events ||| BitVec.twoPow 20 2⟩
                  draws := s.draws + 1 }).drive)))

/-- SAMPLE_EVENT of GAPPOS at a CRUSHER: a raw count of 1 to 4094 gives the measured gap from gap zero and
sets the flag; 0 and 4095 clear it, keep the gap, and raise GAP_SENSOR when the flag was set or none has been
taken since OFFLINE; the notice goes to the MVE and the CWU, in an open order with a trip that GAP_SENSOR is
selected for. In OFFLINE and in another role nothing happens (R38, R40, R41, R42, R189; order, and other
channels: log entries 4 and 9). -/
def Obligations.GapSamples : Prop :=
  ∀ (s : State) (count : BitVec 12),
    s.act .gap = s.gapNotice ∧
    (s.cfg.held = false →
    let valid := 1 ≤ count.toNat ∧ count.toNat ≤ 4094
    let gap :=
      if count.toNat ≤ s.cwu.r0 then 0
      else min 3000 ((count.toNat - s.cwu.r0) * s.cfg.image.kp / 256)
    let good : State :=
      { s with
        mfe :=
          { s.mfe with raw := count.toNat, gap := gap, gapValid := true, gapSampled := true } }
    let bad : State :=
      { s with mfe := { s.mfe with raw := count.toNat, gapValid := false, gapSampled := true } }
    let told : State := { bad with evu := ⟨s.evu.events ||| BitVec.twoPow 20 4⟩ }
    (s.rsc.runState = .offline ∨ s.cfg.image.role ≠ .crusher →
      exec (.sampleEvent .gapPos count) s = .next s.drive) ∧
    (s.rsc.runState ≠ .offline → s.cfg.image.role = .crusher →
      (valid → exec (.sampleEvent .gapPos count) s = .next good.gapNotice.drive) ∧
      (¬valid → s.mfe.gapValid = false → s.mfe.gapSampled = true →
        exec (.sampleEvent .gapPos count) s = .next bad.gapNotice.drive) ∧
      (¬valid → s.mfe.gapValid = true ∨ s.mfe.gapSampled = false →
        (s.cfg.image.tripMask.has .gapSensor = false →
          exec (.sampleEvent .gapPos count) s = .next told.gapNotice.drive) ∧
        (s.cfg.image.tripMask.has .gapSensor = true →
          ∃ order : List SampleAct, order.Perm [.selected .gapSensor, .gap] ∧
            exec (.sampleEvent .gapPos count) s =
              .next
                ((order.foldl State.act { told with draws := s.draws + 1 }).drive)))))

/-- What the notices of samples do at the MVE and the CWU: DRIVE of a gap record ends at the deadband in
VERIFY, VERIFY completes with its second sample inside and drives again at most twice, and DRIVE of a TOUCH
counts load and standstill until contact, which stops the timers, clears the counts, evaluates the calibration
and completes the TOUCH; without a valid gap the record faults SENSOR. In SETTLE a GAPPOS sample has no effect
and a LOAD sample evaluates the STOP settle test, which every TOUCH has; a DWELL or RATE_FOR takes neither
(R127, R131, R132, R160, R161; a sample that puts a TOUCH into DRIVE, or makes contact: log entry 32). -/
def Obligations.SampleNotices : Prop :=
  ∀ s : State,
    (s.mve.active = none → s.gapNotice = s ∧ s.loadNotice = s) ∧
    (∀ c : Context,
      s.contact c =
        (State.evaluateContact
          { s with
            mve := { s.mve with settleTimer := .stopped, recordTimer := .stopped }
            cwu :=
              { s.cwu with loadCount := 0, stillCount := 0, reference := none } }).complete
          { c with phase := .done }) ∧
    ∀ c, s.mve.active = some c →
      let db := s.cfg.image.db
      (∀ target sense, c.work = .gap target sense →
        let within := target ≤ s.mfe.gap + db ∧ s.mfe.gap ≤ target + db
        (∀ d, c.phase = .drive d →
          (s.mfe.gapValid = false → s.gapNotice = (s.fault .sensor).syncHold) ∧
          (s.mfe.gapValid = true →
            ((d = .raise ∧ target ≤ s.mfe.gap + db) ∨ (d = .lower ∧ s.mfe.gap ≤ target + db) →
              s.gapNotice = (s.setActive { c with phase := .verify 0 }).syncHold) ∧
            ((d = .raise ∧ s.mfe.gap + db < target) ∨ (d = .lower ∧ target + db < s.mfe.gap) →
              s.gapNotice = s.syncHold))) ∧
        (∀ n, c.phase = .verify n →
          (s.mfe.gapValid = false → s.gapNotice = (s.fault .sensor).syncHold) ∧
          (s.mfe.gapValid = true → within → n = 0 →
            s.gapNotice = (s.setActive { c with phase := .verify 1 }).syncHold) ∧
          (s.mfe.gapValid = true → within → 1 ≤ n →
            s.gapNotice = (s.complete { c with phase := .done }).syncHold) ∧
          (s.mfe.gapValid = true → ¬within → c.redrives < 2 →
            s.gapNotice =
              ((s.driveDecision { c with redrives := c.redrives + 1 } false).finish).syncHold) ∧
          (s.mfe.gapValid = true → ¬within → 2 ≤ c.redrives →
            s.gapNotice = (s.fault .hunting).syncHold)) ∧
        s.loadNotice = s.stopTest) ∧
      (c.phase = .settle →
        let settled :=
          (∀ e ∈ s.upstream,
            e.runState = .ready ∨ e.runState = .offline ∨ e.runState = .tripped ∨
              e.runState = .stopping ∨ e.throughput = 0) ∧
            s.mfe.load ≤ s.cfg.image.pIdle
        let left :=
          State.driveDecision { s with mve := { s.mve with settleTimer := .stopped } } c true
        s.gapNotice = s ∧
        (c.record.kind = .touch ∨ c.record.feed = .stop → settled →
          s.loadNotice = left.finish.syncHold) ∧
        (c.record.kind = .touch ∨ c.record.feed = .stop → ¬settled → s.loadNotice = s) ∧
        (c.record.kind ≠ .touch → c.record.feed ≠ .stop → s.loadNotice = s)) ∧
      (c.phase = .running → s.gapNotice = s ∧ s.loadNotice = s) ∧
      (c.work = .touch → ∀ d, c.phase = .drive d →
        let stillCount := if s.cwu.reference = some s.mfe.raw then s.cwu.stillCount + 1 else 0
        let stood : State :=
          { s with
            cwu := { s.cwu with reference := some s.mfe.raw, stillCount := stillCount } }
        let loadCount := if s.cfg.image.pTouch ≤ s.mfe.load then s.cwu.loadCount + 1 else 0
        let pressed : State := { s with cwu := { s.cwu with loadCount := loadCount } }
        (s.mfe.gapValid = false → s.gapNotice = (s.fault .sensor).syncHold) ∧
        (s.mfe.gapValid = true →
          (3 ≤ stillCount ∨ 2 ≤ s.cwu.loadCount → s.gapNotice = (stood.contact c).syncHold) ∧
          (stillCount < 3 → s.cwu.loadCount < 2 → s.gapNotice = stood.syncHold)) ∧
        (2 ≤ loadCount ∨ 3 ≤ s.cwu.stillCount → s.loadNotice = (pressed.contact c).syncHold) ∧
        (loadCount < 2 → s.cwu.stillCount < 3 → s.loadNotice = pressed))

/-! ### Orders -/

/-- An order while the receiving side does not run is not received; one for another station is passed over
but counts as a reception; one from elsewhere than a panel of the station is echoed NOT_PERMITTED; one of a
wrong form is echoed UNKNOWN_KIND and changes nothing else; every other one goes to its owner, whose result
is echoed with the tag and the kind as received. A kind code of 1 to 14 with the argument form of its kind is
that order: a number stands in the low two bytes, and the highest is not read (R14, R18, R173, R174, R175, R176,
R177; codes of spec/12, sections 12.1 and 12.3; a telegram given whole: log entry 13). -/
def Obligations.OrderChecks : Prop :=
  (∀ (i : Instr) (p : OrderParts) (s : State), orderParts i = some p → s.cfg.held = false →
    let ours := p.head.target.toNat = s.cfg.image.number ∨ p.head.target.toNat = 31
    let panel :=
      p.head.source.toNat ≠ 0 ∧
        (p.head.source.toNat = s.cfg.image.panel1 ∨ p.head.source.toNat = s.cfg.image.panel2)
    let got : State :=
      { s with
        lbi :=
          { s.lbi with
            rx := .hunt, rxBytes := [], rxDriven := false, idleTime := 0, silent := 0 } }
    s.gotOrder = got ∧
    (s.takes p.head ↔ s.receives = true ∧ ours ∧ panel) ∧
    (∀ h k r, s.answered h k r = .next (State.drive { s with echo := some ⟨h.tag, k, r⟩ })) ∧
    (s.receives = false → exec i s = .next s.drive) ∧
    (s.receives = true →
      (¬ours → exec i s = .next got.drive) ∧
      (ours → ¬panel →
        exec i s =
          .next (State.drive { got with echo := some ⟨p.head.tag, p.kind, .notPermitted⟩ })) ∧
      (ours → panel →
        exec i s =
          .next
            (State.drive
              { (p.act got).1 with echo := some ⟨p.head.tag, p.kind, (p.act got).2⟩ }))) ∧
    ∀ h k a, i = .unknownKind h k a →
      (orderFormOk k a = true →
        ∃ o, Order.ofWire k a = some o ∧ p = ⟨h, k, fun u => u.give o⟩) ∧
      (orderFormOk k a = false → s.receives = true → ours → panel →
        exec (.unknownKind h k a) s =
          .next (State.drive { got with echo := some ⟨h.tag, k, .unknownKind⟩ }))) ∧
  ∀ (h : OrderHead) (a : BitVec 24) (s : State),
    let number := a.extractLsb' 0 16
    exec (.unknownKind h 1#8 none) s = exec (.startLine h) s ∧
    exec (.unknownKind h 2#8 none) s = exec (.stopLine h) s ∧
    exec (.unknownKind h 3#8 none) s = exec (.hold h) s ∧
    exec (.unknownKind h 4#8 none) s = exec (.release h) s ∧
    exec (.unknownKind h 5#8 none) s = exec (.clearTrip h) s ∧
    exec (.unknownKind h 6#8 (some a)) s = exec (.setGap h number) s ∧
    exec (.unknownKind h 7#8 (some a)) s = exec (.setCap h number) s ∧
    exec (.unknownKind h 8#8 none) s = exec (.calibrate h) s ∧
    exec (.unknownKind h 9#8 none) s = exec (.moveRetry h) s ∧
    exec (.unknownKind h 10#8 none) s = exec (.moveDiscard h) s ∧
    exec (.unknownKind h 11#8 none) s = exec (.restoreScale h) s ∧
    exec (.unknownKind h 12#8 (some a)) s = exec (.readCal h number) s ∧
    exec (.unknownKind h 13#8 none) s = exec (.linerChanged h) s ∧
    exec (.unknownKind h 14#8 (some a)) s = exec (.ackEvents h a) s

/-- START_LINE in READY enters STARTING in WAIT_DOWNSTREAM, and where the neighbours run already goes on to
SPIN_UP and with feedback into the running group; STOP_LINE ends STARTING at once and drains a station of
RUNNING or HOLDING; HOLD and RELEASE set and clear the cause ORDERED; CLEAR_TRIP succeeds with the cord
released and two quiet periods; in other run states they are echoed REFUSED_STATE, but for RELEASE (R86, R87,
R89, R94, R98, R99, R104, R179). -/
def Obligations.RunOrders : Prop :=
  ∀ (s : State) (h : OrderHead), s.takes h →
    let u := s.gotOrder
    let timed : Cwu :=
      { u.cwu with
        secondsTimer := if s.cfg.image.role = .crusher then .stopped else u.cwu.secondsTimer }
    let starting : State := { u with lbi := u.early.lbi, cwu := timed }
    (s.rsc.runState ≠ .ready → exec (.startLine h) s = u.answered h 1#8 .refusedState) ∧
    (s.rsc.runState = .ready →
      (s.proceeds = false →
        exec (.startLine h) s =
          State.answered
            { starting with
              rsc :=
                { s.rsc with
                  runState := .starting
                  subPhase := some .waitDownstream
                  startTimer := .running 0 } } h 1#8 .accepted) ∧
      (s.proceeds = true →
        let spinning : State :=
          { starting with
            rsc :=
              { s.rsc with
                runState := .starting
                subPhase := some .spinUp
                startTimer := .stopped
                spinTimer := .running 0 } }
        (s.cfg.image.noFeedback = false → s.mfe.runFbIn = false →
          exec (.startLine h) s = spinning.answered h 1#8 .accepted) ∧
        (s.cfg.image.noFeedback = true ∨ s.mfe.runFbIn = true →
          exec (.startLine h) s = spinning.enterGroup.answered h 1#8 .accepted))) ∧
    (s.rsc.runState = .starting →
      exec (.stopLine h) s =
        State.answered
          { starting with
            rsc :=
              { s.rsc with
                runState := .ready
                subPhase := none
                startTimer := .stopped
                spinTimer := .stopped } } h 2#8 .accepted) ∧
    (s.rsc.runState = .running ∨ s.rsc.runState = .holding →
      let stopping : State :=
        { starting with
          rsc :=
            { s.rsc with
              runState := .stopping
              interlockTimer := .stopped
              drainTimer := if s.drainCondition then s.rsc.drainTimer.start else .stopped }
          ale := { Ale.reset with cap := s.ale.cap } }
      exec (.stopLine h) s =
        (if s.ale.a = 0 then stopping else stopping.reduceTest).answered h 2#8 .accepted) ∧
    (s.rsc.runState = .ready ∨ s.rsc.runState = .stopping ∨ s.rsc.runState = .tripped →
      exec (.stopLine h) s = u.answered h 2#8 .refusedState) ∧
    (s.rsc.runState.inGroup = true →
      exec (.hold h) s =
        (u.changeHold { s.rsc.hold with ordered := true }).answered h 3#8 .accepted) ∧
    (s.rsc.runState.inGroup = false → exec (.hold h) s = u.answered h 3#8 .refusedState) ∧
    (exec (.release h) s =
      (u.changeHold { s.rsc.hold with ordered := false }).answered h 4#8 .accepted) ∧
    (s.rsc.runState = .tripped → s.mfe.pullcordIn = false → s.lbi.dupQuiet = 2 →
      exec (.clearTrip h) s =
        State.answered
          { starting with
            lbi := (State.early { u with lbi := { u.lbi with inhibit := false } }).lbi
            rsc := { s.rsc with runState := .ready, tripCause := none } } h 5#8 .accepted) ∧
    (s.rsc.runState ≠ .tripped ∨ s.mfe.pullcordIn = true ∨ s.lbi.dupQuiet ≠ 2 →
      exec (.clearTrip h) s = u.answered h 5#8 .refusedState)

/-- SET_GAP at a CRUSHER clamps the target to g_min..g_max, writes g_set and the order record, and in RUNNING
and HOLDING requests the order chain; SET_CAP at a FEEDER clamps the cap to 1000; READ_CAL at a CRUSHER
selects a record of the ring; LINER_CHANGED at a CRUSHER that is not turning starts new accounts; RESTORE_SCALE
at a station with a scale forms Q from the window and clears the estimated flag; ACK_EVENTS removes kinds.
Other roles are echoed REFUSED_ROLE (R48, R71, R110, R167, R170, R180, R182, R183, R186; the flag: log
entry 23). -/
def Obligations.SettingOrders : Prop :=
  ∀ (s : State) (h : OrderHead) (a : BitVec 16) (kinds : BitVec 24), s.takes h →
    s.cfg.image.gMin < s.cfg.image.gMax → s.cwu.ring.length ≤ 8 →
    let u := s.gotOrder
    let i := s.cfg.image
    let gap := max i.gMin (min i.gMax a.toNat)
    let set : State :=
      { u with
        mve :=
          { s.mve with
            gSet := gap
            table :=
              s.mve.table.set 0
                { kind := .gapTo
                  targetSource := .standing
                  argument := gap
                  step := 0
                  timeout := i.orderTimeout
                  feed := i.orderFeed
                  notify := false
                  update := false
                  stop := true
                  next := 0 } } }
    let scaled : State :=
      { u with
        mfe :=
          { s.mfe with
            source := .scale
            watchdog := 0
            q := min 4000 (s.mfe.window.sum * i.w * 3600 / (16 * i.tB))
            estimated := false } }
    (i.role = .crusher →
      exec (.setGap h a) s =
        (if s.rsc.runState.isTurning then set.request .orderGap else set).answered h 6#8
          (if gap = a.toNat then .accepted else .clamped)) ∧
    (i.role ≠ .crusher →
      exec (.setGap h a) s = u.answered h 6#8 .refusedRole ∧
      exec (.readCal h a) s = u.answered h 12#8 .refusedRole ∧
      exec (.linerChanged h) s = u.answered h 13#8 .refusedRole) ∧
    (i.role = .feeder →
      exec (.setCap h a) s =
        State.answered { u with ale := { s.ale with cap := min 1000 a.toNat } } h 7#8
          (if a.toNat ≤ 1000 then .accepted else .clamped)) ∧
    (i.role ≠ .feeder → exec (.setCap h a) s = u.answered h 7#8 .refusedRole) ∧
    (i.role = .crusher →
      exec (.readCal h a) s =
        State.answered
          { u with cwu := { s.cwu with selection := min a.toNat (s.cwu.ring.length - 1) } } h 12#8
          (if a.toNat < max 1 s.cwu.ring.length then .accepted else .clamped)) ∧
    (i.role = .crusher →
      (s.rsc.runState.isTurning = true →
        exec (.linerChanged h) s = u.answered h 13#8 .refusedState) ∧
      (s.rsc.runState.isTurning = false →
        exec (.linerChanged h) s =
          State.answered
            { u with
              cwu :=
                { s.cwu with
                  ring := []
                  selection := 0
                  totalWear := 0
                  hours := 0
                  minutes := 0
                  due := true } } h 13#8 .accepted)) ∧
    (i.role = .bin ∨ i.w = 0 → exec (.restoreScale h) s = u.answered h 11#8 .refusedRole) ∧
    (i.role ≠ .bin → i.w ≠ 0 →
      exec (.restoreScale h) s =
        (if scaled.mfe.q = s.mfe.q then scaled
        else scaled.evaluateDrain.reduceTest).answered h 11#8 .accepted) ∧
    (∃ t, exec (.ackEvents h kinds) s = .next t ∧
      (∀ k : EventKind, t.evu.events.has k = (s.evu.events.has k && !kinds.getLsbD k.bit)) ∧
      t = State.drive { u with evu := t.evu, echo := some ⟨h.tag, 14#8, .accepted⟩ })

/-- CALIBRATE requests the chain of its requester in RUNNING and HOLDING of a CRUSHER that has one;
MOVE_RETRY in the running group with a fault parked and no chain active loads the parked record anew with
its executed count at 0; MOVE_DISCARD empties the fault slot and selects (R137, R148, R149, R181; the net change
of the hold set: log entry 29). -/
def Obligations.MoveOrders : Prop :=
  ∀ (s : State) (h : OrderHead), s.takes h →
    let u := s.gotOrder
    let chain := s.cfg.image.role = .crusher ∧ s.cfg.image.headCalibrate.slot ≠ 0
    let cleared : State := { u with mve := { s.mve with parked := none } }
    (¬chain → exec (.calibrate h) s = u.answered h 8#8 .refusedRole) ∧
    (chain → s.rsc.runState.isTurning = false →
      exec (.calibrate h) s = u.answered h 8#8 .refusedState) ∧
    (chain → s.rsc.runState.isTurning = true →
      (s.mve.requests.calibrate = true → exec (.calibrate h) s = u.answered h 8#8 .accepted) ∧
      (s.mve.requests.calibrate = false →
        exec (.calibrate h) s =
          State.answered
            (State.grantPoint
              { u with
                mve := { s.mve with requests := { s.mve.requests with calibrate := true } } }
              .calibrate).syncHold h 8#8 .accepted)) ∧
    (s.rsc.runState.inGroup = false ∨ s.mve.parked = none ∨ s.mve.active.isSome = true →
      exec (.moveRetry h) s = u.answered h 9#8 .refusedState) ∧
    (∀ c, s.mve.parked = some c → s.rsc.runState.inGroup = true → s.mve.active = none →
      let l := cleared.loadActive { c with executed := 0 }
      (∀ f, l.2 = some f →
        exec (.moveRetry h) s = (l.1.fault f).syncHold.answered h 9#8 .accepted) ∧
      (l.2 = none →
        (∀ r, s.mve.bestRequest = some r → c.requester.priority < r.priority →
          exec (.moveRetry h) s =
            (l.1.grantPoint r).syncHold.answered h 9#8 .accepted) ∧
        ((s.mve.bestRequest.all fun r => decide (r.priority ≤ c.requester.priority)) = true →
          exec (.moveRetry h) s = l.1.syncHold.answered h 9#8 .accepted))) ∧
    (s.mve.parked = none → exec (.moveDiscard h) s = u.answered h 10#8 .refusedState) ∧
    (s.mve.parked.isSome = true →
      exec (.moveDiscard h) s = cleared.select.syncHold.answered h 10#8 .accepted)

/-! ### Entry to the running group, edges and timers -/

/-- Entry to the running group: the hold causes that stand are taken up, the state is RUNNING or HOLDING by
them, the interlock is evaluated, the requests that an entry raises join those kept, and a selection follows;
a relief open at a station without a tramp chain then trips it (R90, R92, R96, R155, R168, R169). -/
def Obligations.GroupEntered : Prop :=
  ∀ s : State, s.rsc.runState = .starting →
    let i := s.cfg.image
    let relief := i.role = .crusher ∧ s.mfe.trampIn = true
    let chain := i.headTramp.slot ≠ 0
    let h : HoldSet :=
      { tramp := decide (relief ∧ chain)
        overload := s.mfe.overload
        levelHigh := s.mfe.levelHigh
        move := false
        moveFault := s.mve.parked.isSome
        downstream := s.downstreamCause
        ordered := false }
    let idle :=
      i.role ≠ .bin ∧ i.terminal = false ∧
        ∀ e ∈ s.downstream, e.runState ≠ .running ∧ e.runState ≠ .holding
    let entered : State :=
      { s with
        rsc :=
          { s.rsc with
            runState := if h = HoldSet.empty then .running else .holding
            subPhase := none
            startTimer := .stopped
            spinTimer := .stopped
            hold := h
            interlockTimer := if idle then s.rsc.interlockTimer.start else .stopped }
        lbi := s.early.lbi
        cwu :=
          { s.cwu with
            attempts := if relief ∧ chain then 1 else s.cwu.attempts
            secondsTimer :=
              if i.role = .crusher then s.cwu.secondsTimer.start else s.cwu.secondsTimer }
        mve :=
          { s.mve with
            requests :=
              { s.mve.requests with
                tramp := s.mve.requests.tramp || decide (relief ∧ chain)
                overload :=
                  s.mve.requests.overload || (s.mfe.overload && i.headOverload.slot != 0)
                start := s.mve.requests.start || i.headStart.slot != 0
                schedule :=
                  s.mve.requests.schedule ||
                    decide
                      (i.role = .crusher ∧ s.cwu.due = true ∧ i.headSchedule.slot ≠ 0 ∧
                        s.cwu.suspended = false) } } }
    s.enterGroup =
      if relief ∧ ¬chain then (entered.select.syncHold).trip .trampUncleared
      else entered.select.syncHold

/-- SCALE_PULSE and the edges. An edge of SCALE at a station with a scale counts and resets the watchdog, but
for one less than 100 us (25 bit times) after the last accepted one, which has no effect; an active TRAMP edge
raises its kind and in the running group starts a clearing, joins the one in progress, or trips a station
without a chain; a PULLCORD edge trips; RUN_FB leads from SPIN_UP into the running group, and its loss there
trips; inactive edges of TRAMP and PULLCORD change the level only (R43, R51, R57, R89, R101, R137, R154, R156,
R191; no effect in OFFLINE and on unused inputs, an edge at the level already accepted, the cause before the
request, and the time between pulses: log entries 9, 10, 16 and 35). -/
def Obligations.PulseAndEdges : Prop :=
  ∀ s : State, s.cfg.held = false →
    let off := s.rsc.runState = .offline
    let i := s.cfg.image
    let relief : State :=
      { s with
        mfe := { s.mfe with trampIn := true }
        evu := ⟨s.evu.events ||| BitVec.twoPow 20 0⟩ }
    let fed : State := { s with mfe := { s.mfe with runFbIn := true } }
    let apart := s.mfe.pulseTimer = .stopped ∨ ∃ e, s.mfe.pulseTimer = .running e ∧ 25 ≤ e
    (off ∨ i.role = .bin ∨ i.w = 0 ∨ ¬apart → exec .scalePulse s = .next s.drive) ∧
    (¬off → i.role ≠ .bin → i.w ≠ 0 → apart →
      exec .scalePulse s =
        .next
          (State.drive
            { s with
              mfe :=
                { s.mfe with
                  pulses := min 65535 (s.mfe.pulses + 1)
                  pulseTimer := .running 0
                  watchdog := if s.mfe.source = .scale then 0 else s.mfe.watchdog } })) ∧
    (off ∨ i.role ≠ .crusher →
      exec .trampActiveEdge s = .next s.drive ∧ exec .trampInactiveEdge s = .next s.drive) ∧
    (¬off → i.role = .crusher →
      exec .trampInactiveEdge s =
        .next (State.drive { s with mfe := { s.mfe with trampIn := false } }) ∧
      (s.rsc.runState.inGroup = false → exec .trampActiveEdge s = .next relief.drive) ∧
      (s.rsc.runState.inGroup = true →
        (s.cwu.attempts = 0 → i.headTramp.slot = 0 →
          exec .trampActiveEdge s = .next (relief.trip .trampUncleared).drive) ∧
        (s.cwu.attempts = 0 → i.headTramp.slot ≠ 0 →
          exec .trampActiveEdge s =
            .next
              ((State.changeHold { relief with cwu := { s.cwu with attempts := 1 } }
                  { s.rsc.hold with tramp := true }).request .tramp).drive) ∧
        (s.cwu.attempts ≠ 0 →
          exec .trampActiveEdge s = .next (relief.request .tramp).drive))) ∧
    (∀ r : Requester,
      (s.rsc.runState.inGroup = false ∨ s.mve.requests.has r = true → s.request r = s) ∧
      (s.rsc.runState.inGroup = true → s.mve.requests.has r = false →
        s.request r =
          (State.grantPoint
            { s with mve := { s.mve with requests := s.mve.requests.put true r } } r).syncHold)) ∧
    (off →
      exec .pullcordActiveEdge s = .next s.drive ∧ exec .pullcordInactiveEdge s = .next s.drive) ∧
    (¬off →
      exec .pullcordActiveEdge s =
        .next (State.trip { s with mfe := { s.mfe with pullcordIn := true } } .pullcord).drive ∧
      exec .pullcordInactiveEdge s =
        .next (State.drive { s with mfe := { s.mfe with pullcordIn := false } })) ∧
    (off ∨ i.noFeedback = true →
      exec .runFbActiveEdge s = .next s.drive ∧ exec .runFbInactiveEdge s = .next s.drive) ∧
    (¬off → i.noFeedback = false →
      (s.rsc.runState = .starting → s.rsc.subPhase = some .spinUp →
        exec .runFbActiveEdge s = .next fed.enterGroup.drive) ∧
      (s.rsc.runState ≠ .starting ∨ s.rsc.subPhase ≠ some .spinUp →
        exec .runFbActiveEdge s = .next fed.drive) ∧
      (s.rsc.runState.inGroup = true →
        exec .runFbInactiveEdge s =
          .next (State.trip { s with mfe := { s.mfe with runFbIn := false } } .motorStopped).drive) ∧
      (s.rsc.runState.inGroup = false →
        exec .runFbInactiveEdge s =
          .next (State.drive { s with mfe := { s.mfe with runFbIn := false } })))

/-- The timers of the RSC. The start limit in WAIT_DOWNSTREAM gives READY and START_TIMEOUT, the spin-up
limit a trip with NO_FEEDBACK, the interlock limit READY and INTERLOCK_STOP, the drain time READY; on leaving
the running group the hold set clears and the MVE drops every chain and request but ORDER_GAP and keeps the
fault slot. A timer that does not run, or runs in another state, does nothing (R61, R83, R88, R89, R91, R97,
R100, R150, R158, R160; the last sentence: log entry 9). -/
def Obligations.RunTimersExpire : Prop :=
  ∀ s : State, s.cfg.held = false →
    let waiting :=
      s.rsc.startTimer ≠ .stopped ∧ s.rsc.runState = .starting ∧
        s.rsc.subPhase = some .waitDownstream
    let spinning :=
      s.rsc.spinTimer ≠ .stopped ∧ s.rsc.runState = .starting ∧ s.rsc.subPhase = some .spinUp
    let stops := s.rsc.interlockTimer ≠ .stopped ∧ s.rsc.runState.isTurning = true
    let drained := s.rsc.drainTimer ≠ .stopped ∧ s.rsc.runState = .stopping
    let secondsTimer : Timer :=
      if s.cfg.image.role = .crusher then .stopped else s.cwu.secondsTimer
    let left : State :=
      { s with
        lbi := s.early.lbi
        rsc :=
          { s.rsc with
            runState := .ready
            hold := HoldSet.empty
            interlockTimer := .stopped
            drainTimer := .stopped }
        mve :=
          { s.mve with
            active := none
            stack := []
            requests := { RequestSet.empty with orderGap := s.mve.requests.orderGap }
            settleTimer := .stopped
            recordTimer := .stopped }
        cwu :=
          { s.cwu with
            attempts := 0
            loadCount := 0
            stillCount := 0
            reference := none
            secondsTimer := secondsTimer } }
    (¬waiting → exec .startLimitExpiry s = .next s.drive) ∧
    (waiting →
      exec .startLimitExpiry s =
        .next
          (State.drive
            { s with
              lbi := s.early.lbi
              rsc :=
                { s.rsc with runState := .ready, subPhase := none, startTimer := .stopped }
              cwu := { s.cwu with secondsTimer := secondsTimer }
              evu := ⟨s.evu.events ||| BitVec.twoPow 20 7⟩ })) ∧
    (¬spinning → exec .spinUpExpiry s = .next s.drive) ∧
    (spinning → exec .spinUpExpiry s = .next (s.trip .noFeedback).drive) ∧
    (¬stops → exec .interlockExpiry s = .next s.drive) ∧
    (stops →
      exec .interlockExpiry s =
        .next
          (State.drive
            { left with
              ale := { Ale.reset with cap := s.ale.cap }
              evu := ⟨s.evu.events ||| BitVec.twoPow 20 8⟩ })) ∧
    (¬drained → exec .drainExpiry s = .next s.drive) ∧
    (drained → exec .drainExpiry s = .next left.drive)

/-- The timers of the MVE and the CWU. The settle timer faults a record in SETTLE with FEED_NOT_STOPPED, the
record timer one in DRIVE or VERIFY with the timeout of its sense, the remaining time completes a DWELL or
RATE_FOR; a second counts toward the minute, a minute toward the calibration interval and the hour, and the
interval makes a calibration due and requests SCHEDULE. A timer that does not run, or meets another phase, does
nothing, and REMAINING_TIME_EXPIRY acts whatever time is left (R129, R133, R135, R153, R166, R168, R169; the
last sentence: log entry 9). -/
def Obligations.MoveAndWearTimersExpire : Prop :=
  ∀ s : State, s.cfg.held = false →
    (∀ c, s.mve.active = some c →
      (s.mve.settleTimer ≠ .stopped → c.phase = .settle →
        exec .settleTimerExpiry s = .next (s.fault .feedNotStopped).syncHold.drive) ∧
      (s.mve.settleTimer = .stopped ∨ c.phase ≠ .settle →
        exec .settleTimerExpiry s = .next s.drive) ∧
      (s.mve.recordTimer = .stopped → exec .recordTimerExpiry s = .next s.drive) ∧
      (s.mve.recordTimer ≠ .stopped →
        ((∃ d, c.phase = .drive d) ∨ (∃ n, c.phase = .verify n) →
          (∀ target, c.work = .gap target .opening →
            exec .recordTimerExpiry s = .next (s.fault .timeoutOpening).syncHold.drive) ∧
          (∀ target, c.work = .gap target .closing →
            exec .recordTimerExpiry s = .next (s.fault .timeoutClosing).syncHold.drive) ∧
          (c.work = .touch →
            exec .recordTimerExpiry s = .next (s.fault .noContact).syncHold.drive)) ∧
        (c.phase = .load ∨ c.phase = .settle ∨ c.phase = .done ∨ c.phase = .running →
          exec .recordTimerExpiry s = .next s.drive)) ∧
      (c.phase = .running →
        exec .remainingTimeExpiry s = .next (s.complete c).syncHold.drive) ∧
      (c.phase ≠ .running → exec .remainingTimeExpiry s = .next s.drive)) ∧
    (s.mve.active = none →
      exec .settleTimerExpiry s = .next s.drive ∧ exec .recordTimerExpiry s = .next s.drive ∧
      exec .remainingTimeExpiry s = .next s.drive) ∧
    (s.cwu.secondsTimer = .stopped → exec .secondsTimerExpiry s = .next s.drive) ∧
    (s.cwu.secondsTimer ≠ .stopped →
      let minute : Cwu :=
        { s.cwu with
          secondsTimer := .running 0
          seconds := 0
          sinceCal := min 65535 (s.cwu.sinceCal + 1)
          minutes := if s.cwu.minutes = 59 then 0 else s.cwu.minutes + 1
          hours := if s.cwu.minutes = 59 then min 65535 (s.cwu.hours + 1) else s.cwu.hours }
      let due : State := { s with cwu := { minute with due := true } }
      (s.cwu.seconds ≠ 59 →
        exec .secondsTimerExpiry s =
          .next
            (State.drive
              { s with
                cwu :=
                  { s.cwu with secondsTimer := .running 0, seconds := s.cwu.seconds + 1 } })) ∧
      (s.cwu.seconds = 59 → s.cwu.sinceCal + 1 ≠ s.cfg.image.calInterval →
        exec .secondsTimerExpiry s = .next (State.drive { s with cwu := minute })) ∧
      (s.cwu.seconds = 59 → s.cwu.sinceCal + 1 = s.cfg.image.calInterval →
        (s.cfg.image.headSchedule.slot = 0 ∨ s.cwu.suspended = true →
          exec .secondsTimerExpiry s = .next due.drive) ∧
        (s.cfg.image.headSchedule.slot ≠ 0 → s.cwu.suspended = false →
          exec .secondsTimerExpiry s = .next (due.request .schedule).drive)))
end

