-- ==== Sys2Proof/Laws/State.lean ====
section
/-! SUPPORT. One lemma for each field of the state after each plain update. -/

namespace Sys2Proof.Machine

variable (s : State)

/-! ### State.drawn -/

@[simp] theorem State.drawn_lbi : s.drawn.lbi = s.lbi := rfl

@[simp] theorem State.drawn_peers : s.drawn.peers = s.peers := rfl

@[simp] theorem State.drawn_mfe : s.drawn.mfe = s.mfe := rfl

@[simp] theorem State.drawn_ale : s.drawn.ale = s.ale := rfl

@[simp] theorem State.drawn_rsc : s.drawn.rsc = s.rsc := rfl

@[simp] theorem State.drawn_mve : s.drawn.mve = s.mve := rfl

@[simp] theorem State.drawn_cwu : s.drawn.cwu = s.cwu := rfl

@[simp] theorem State.drawn_echo : s.drawn.echo = s.echo := rfl

@[simp] theorem State.drawn_evu : s.drawn.evu = s.evu := rfl

@[simp] theorem State.drawn_cfg : s.drawn.cfg = s.cfg := rfl

@[simp] theorem State.drawn_pins : s.drawn.pins = s.pins := rfl

@[simp] theorem State.drawn_draws : s.drawn.draws = s.draws + 1 := rfl

@[simp] theorem State.drawn_pending : s.drawn.pending = s.pending := rfl

/-! ### State.startBit -/

@[simp] theorem State.startBit_lbi : s.startBit.lbi = { s.lbi with idleTime := 0 } := rfl

@[simp] theorem State.startBit_peers : s.startBit.peers = s.peers := rfl

@[simp] theorem State.startBit_mfe : s.startBit.mfe = s.mfe := rfl

@[simp] theorem State.startBit_ale : s.startBit.ale = s.ale := rfl

@[simp] theorem State.startBit_rsc : s.startBit.rsc = s.rsc := rfl

@[simp] theorem State.startBit_mve : s.startBit.mve = s.mve := rfl

@[simp] theorem State.startBit_cwu : s.startBit.cwu = s.cwu := rfl

@[simp] theorem State.startBit_echo : s.startBit.echo = s.echo := rfl

@[simp] theorem State.startBit_evu : s.startBit.evu = s.evu := rfl

@[simp] theorem State.startBit_cfg : s.startBit.cfg = s.cfg := rfl

@[simp] theorem State.startBit_pins : s.startBit.pins = s.pins := rfl

@[simp] theorem State.startBit_draws : s.startBit.draws = s.draws := rfl

@[simp] theorem State.startBit_pending : s.startBit.pending = s.pending := rfl

/-! ### State.raise -/

@[simp] theorem State.raise_lbi (k : EventKind) : (s.raise k).lbi = s.lbi := rfl

@[simp] theorem State.raise_peers (k : EventKind) : (s.raise k).peers = s.peers := rfl

@[simp] theorem State.raise_mfe (k : EventKind) : (s.raise k).mfe = s.mfe := rfl

@[simp] theorem State.raise_ale (k : EventKind) : (s.raise k).ale = s.ale := rfl

@[simp] theorem State.raise_rsc (k : EventKind) : (s.raise k).rsc = s.rsc := rfl

@[simp] theorem State.raise_mve (k : EventKind) : (s.raise k).mve = s.mve := rfl

@[simp] theorem State.raise_cwu (k : EventKind) : (s.raise k).cwu = s.cwu := rfl

@[simp] theorem State.raise_echo (k : EventKind) : (s.raise k).echo = s.echo := rfl

@[simp] theorem State.raise_evu (k : EventKind) : (s.raise k).evu = ⟨s.evu.events.add k⟩ := rfl

@[simp] theorem State.raise_cfg (k : EventKind) : (s.raise k).cfg = s.cfg := rfl

@[simp] theorem State.raise_pins (k : EventKind) : (s.raise k).pins = s.pins := rfl

@[simp] theorem State.raise_draws (k : EventKind) : (s.raise k).draws = s.draws := rfl

@[simp] theorem State.raise_pending (k : EventKind) : (s.raise k).pending = s.pending := rfl

/-! ### State.drive -/

@[simp] theorem State.drive_lbi : s.drive.lbi = s.lbi := rfl

@[simp] theorem State.drive_peers : s.drive.peers = s.peers := rfl

@[simp] theorem State.drive_mfe : s.drive.mfe = s.mfe := rfl

@[simp] theorem State.drive_ale : s.drive.ale = s.ale := rfl

@[simp] theorem State.drive_rsc : s.drive.rsc = s.rsc := rfl

@[simp] theorem State.drive_mve : s.drive.mve = s.mve := rfl

@[simp] theorem State.drive_cwu : s.drive.cwu = s.cwu := rfl

@[simp] theorem State.drive_echo : s.drive.echo = s.echo := rfl

@[simp] theorem State.drive_evu : s.drive.evu = s.evu := rfl

@[simp] theorem State.drive_cfg : s.drive.cfg = s.cfg := rfl

@[simp] theorem State.drive_pins : s.drive.pins = s.outputs := rfl

@[simp] theorem State.drive_draws : s.drive.draws = s.draws := rfl

@[simp] theorem State.drive_pending : s.drive.pending = s.pending := rfl

/-! ### State.setActive -/

@[simp] theorem State.setActive_lbi (c : Context) : (s.setActive c).lbi = s.lbi := rfl

@[simp] theorem State.setActive_peers (c : Context) : (s.setActive c).peers = s.peers := rfl

@[simp] theorem State.setActive_mfe (c : Context) : (s.setActive c).mfe = s.mfe := rfl

@[simp] theorem State.setActive_ale (c : Context) : (s.setActive c).ale = s.ale := rfl

@[simp] theorem State.setActive_rsc (c : Context) : (s.setActive c).rsc = s.rsc := rfl

@[simp] theorem State.setActive_mve (c : Context) :
    (s.setActive c).mve = { s.mve with active := some c } := rfl

@[simp] theorem State.setActive_cwu (c : Context) : (s.setActive c).cwu = s.cwu := rfl

@[simp] theorem State.setActive_echo (c : Context) : (s.setActive c).echo = s.echo := rfl

@[simp] theorem State.setActive_evu (c : Context) : (s.setActive c).evu = s.evu := rfl

@[simp] theorem State.setActive_cfg (c : Context) : (s.setActive c).cfg = s.cfg := rfl

@[simp] theorem State.setActive_pins (c : Context) : (s.setActive c).pins = s.pins := rfl

@[simp] theorem State.setActive_draws (c : Context) : (s.setActive c).draws = s.draws := rfl

@[simp] theorem State.setActive_pending (c : Context) : (s.setActive c).pending = s.pending := rfl

/-! ### State.noActive -/

@[simp] theorem State.noActive_lbi : s.noActive.lbi = s.lbi := rfl

@[simp] theorem State.noActive_peers : s.noActive.peers = s.peers := rfl

@[simp] theorem State.noActive_mfe : s.noActive.mfe = s.mfe := rfl

@[simp] theorem State.noActive_ale : s.noActive.ale = s.ale := rfl

@[simp] theorem State.noActive_rsc : s.noActive.rsc = s.rsc := rfl

@[simp] theorem State.noActive_mve : s.noActive.mve = { s.mve with active := none } := rfl

@[simp] theorem State.noActive_cwu : s.noActive.cwu = s.cwu := rfl

@[simp] theorem State.noActive_echo : s.noActive.echo = s.echo := rfl

@[simp] theorem State.noActive_evu : s.noActive.evu = s.evu := rfl

@[simp] theorem State.noActive_cfg : s.noActive.cfg = s.cfg := rfl

@[simp] theorem State.noActive_pins : s.noActive.pins = s.pins := rfl

@[simp] theorem State.noActive_draws : s.noActive.draws = s.draws := rfl

@[simp] theorem State.noActive_pending : s.noActive.pending = s.pending := rfl

/-! ### State.stopMoveTimers -/

@[simp] theorem State.stopMoveTimers_lbi : s.stopMoveTimers.lbi = s.lbi := rfl

@[simp] theorem State.stopMoveTimers_peers : s.stopMoveTimers.peers = s.peers := rfl

@[simp] theorem State.stopMoveTimers_mfe : s.stopMoveTimers.mfe = s.mfe := rfl

@[simp] theorem State.stopMoveTimers_ale : s.stopMoveTimers.ale = s.ale := rfl

@[simp] theorem State.stopMoveTimers_rsc : s.stopMoveTimers.rsc = s.rsc := rfl

@[simp] theorem State.stopMoveTimers_mve :
    s.stopMoveTimers.mve = { s.mve with settleTimer := .stopped, recordTimer := .stopped } := rfl

@[simp] theorem State.stopMoveTimers_cwu : s.stopMoveTimers.cwu = s.cwu.clearContact := rfl

@[simp] theorem State.stopMoveTimers_echo : s.stopMoveTimers.echo = s.echo := rfl

@[simp] theorem State.stopMoveTimers_evu : s.stopMoveTimers.evu = s.evu := rfl

@[simp] theorem State.stopMoveTimers_cfg : s.stopMoveTimers.cfg = s.cfg := rfl

@[simp] theorem State.stopMoveTimers_pins : s.stopMoveTimers.pins = s.pins := rfl

@[simp] theorem State.stopMoveTimers_draws : s.stopMoveTimers.draws = s.draws := rfl

@[simp] theorem State.stopMoveTimers_pending : s.stopMoveTimers.pending = s.pending := rfl

/-! ### State.putRequest -/

@[simp] theorem State.putRequest_lbi (r : Requester) : (s.putRequest r).lbi = s.lbi := rfl

@[simp] theorem State.putRequest_peers (r : Requester) : (s.putRequest r).peers = s.peers := rfl

@[simp] theorem State.putRequest_mfe (r : Requester) : (s.putRequest r).mfe = s.mfe := rfl

@[simp] theorem State.putRequest_ale (r : Requester) : (s.putRequest r).ale = s.ale := rfl

@[simp] theorem State.putRequest_rsc (r : Requester) : (s.putRequest r).rsc = s.rsc := rfl

@[simp] theorem State.putRequest_mve (r : Requester) :
    (s.putRequest r).mve = { s.mve with requests := s.mve.requests.put true r } := rfl

@[simp] theorem State.putRequest_cwu (r : Requester) : (s.putRequest r).cwu = s.cwu := rfl

@[simp] theorem State.putRequest_echo (r : Requester) : (s.putRequest r).echo = s.echo := rfl

@[simp] theorem State.putRequest_evu (r : Requester) : (s.putRequest r).evu = s.evu := rfl

@[simp] theorem State.putRequest_cfg (r : Requester) : (s.putRequest r).cfg = s.cfg := rfl

@[simp] theorem State.putRequest_pins (r : Requester) : (s.putRequest r).pins = s.pins := rfl

@[simp] theorem State.putRequest_draws (r : Requester) : (s.putRequest r).draws = s.draws := rfl

@[simp] theorem State.putRequest_pending (r : Requester) :
    (s.putRequest r).pending = s.pending := rfl

/-! ### State.appendCal -/

@[simp] theorem State.appendCal_lbi (r : CalRecord) : (s.appendCal r).lbi = s.lbi := rfl

@[simp] theorem State.appendCal_peers (r : CalRecord) : (s.appendCal r).peers = s.peers := rfl

@[simp] theorem State.appendCal_mfe (r : CalRecord) : (s.appendCal r).mfe = s.mfe := rfl

@[simp] theorem State.appendCal_ale (r : CalRecord) : (s.appendCal r).ale = s.ale := rfl

@[simp] theorem State.appendCal_rsc (r : CalRecord) : (s.appendCal r).rsc = s.rsc := rfl

@[simp] theorem State.appendCal_mve (r : CalRecord) : (s.appendCal r).mve = s.mve := rfl

@[simp] theorem State.appendCal_cwu (r : CalRecord) :
    (s.appendCal r).cwu = { s.cwu with ring := appendRecord s.cwu.ring r, selection := 0 } := rfl

@[simp] theorem State.appendCal_echo (r : CalRecord) : (s.appendCal r).echo = s.echo := rfl

@[simp] theorem State.appendCal_evu (r : CalRecord) : (s.appendCal r).evu = s.evu := rfl

@[simp] theorem State.appendCal_cfg (r : CalRecord) : (s.appendCal r).cfg = s.cfg := rfl

@[simp] theorem State.appendCal_pins (r : CalRecord) : (s.appendCal r).pins = s.pins := rfl

@[simp] theorem State.appendCal_draws (r : CalRecord) : (s.appendCal r).draws = s.draws := rfl

@[simp] theorem State.appendCal_pending (r : CalRecord) : (s.appendCal r).pending = s.pending := rfl

/-! ### State.writeGap -/

@[simp] theorem State.writeGap_lbi (g : Nat) : (s.writeGap g).lbi = s.lbi := rfl

@[simp] theorem State.writeGap_peers (g : Nat) : (s.writeGap g).peers = s.peers := rfl

@[simp] theorem State.writeGap_mfe (g : Nat) : (s.writeGap g).mfe = s.mfe := rfl

@[simp] theorem State.writeGap_ale (g : Nat) : (s.writeGap g).ale = s.ale := rfl

@[simp] theorem State.writeGap_rsc (g : Nat) : (s.writeGap g).rsc = s.rsc := rfl

@[simp] theorem State.writeGap_mve (g : Nat) :
    (s.writeGap g).mve = { s.mve with gSet := g, table := s.mve.table.set 0 (orderRecord s.cfg.image g) } := rfl

@[simp] theorem State.writeGap_cwu (g : Nat) : (s.writeGap g).cwu = s.cwu := rfl

@[simp] theorem State.writeGap_echo (g : Nat) : (s.writeGap g).echo = s.echo := rfl

@[simp] theorem State.writeGap_evu (g : Nat) : (s.writeGap g).evu = s.evu := rfl

@[simp] theorem State.writeGap_cfg (g : Nat) : (s.writeGap g).cfg = s.cfg := rfl

@[simp] theorem State.writeGap_pins (g : Nat) : (s.writeGap g).pins = s.pins := rfl

@[simp] theorem State.writeGap_draws (g : Nat) : (s.writeGap g).draws = s.draws := rfl

@[simp] theorem State.writeGap_pending (g : Nat) : (s.writeGap g).pending = s.pending := rfl

/-! ### State.setEcho -/

@[simp] theorem State.setEcho_lbi (tag kind : Byte) (r : OrderResult) :
    (s.setEcho tag kind r).lbi = s.lbi := rfl

@[simp] theorem State.setEcho_peers (tag kind : Byte) (r : OrderResult) :
    (s.setEcho tag kind r).peers = s.peers := rfl

@[simp] theorem State.setEcho_mfe (tag kind : Byte) (r : OrderResult) :
    (s.setEcho tag kind r).mfe = s.mfe := rfl

@[simp] theorem State.setEcho_ale (tag kind : Byte) (r : OrderResult) :
    (s.setEcho tag kind r).ale = s.ale := rfl

@[simp] theorem State.setEcho_rsc (tag kind : Byte) (r : OrderResult) :
    (s.setEcho tag kind r).rsc = s.rsc := rfl

@[simp] theorem State.setEcho_mve (tag kind : Byte) (r : OrderResult) :
    (s.setEcho tag kind r).mve = s.mve := rfl

@[simp] theorem State.setEcho_cwu (tag kind : Byte) (r : OrderResult) :
    (s.setEcho tag kind r).cwu = s.cwu := rfl

@[simp] theorem State.setEcho_echo (tag kind : Byte) (r : OrderResult) :
    (s.setEcho tag kind r).echo = some ⟨tag, kind, r⟩ := rfl

@[simp] theorem State.setEcho_evu (tag kind : Byte) (r : OrderResult) :
    (s.setEcho tag kind r).evu = s.evu := rfl

@[simp] theorem State.setEcho_cfg (tag kind : Byte) (r : OrderResult) :
    (s.setEcho tag kind r).cfg = s.cfg := rfl

@[simp] theorem State.setEcho_pins (tag kind : Byte) (r : OrderResult) :
    (s.setEcho tag kind r).pins = s.pins := rfl

@[simp] theorem State.setEcho_draws (tag kind : Byte) (r : OrderResult) :
    (s.setEcho tag kind r).draws = s.draws := rfl

@[simp] theorem State.setEcho_pending (tag kind : Byte) (r : OrderResult) :
    (s.setEcho tag kind r).pending = s.pending := rfl

/-! ### State.tookTelegram -/

@[simp] theorem State.tookTelegram_lbi :
    s.tookTelegram.lbi = { s.lbi.hunt with idleTime := 0 } := rfl

@[simp] theorem State.tookTelegram_peers : s.tookTelegram.peers = s.peers := rfl

@[simp] theorem State.tookTelegram_mfe : s.tookTelegram.mfe = s.mfe := rfl

@[simp] theorem State.tookTelegram_ale : s.tookTelegram.ale = s.ale := rfl

@[simp] theorem State.tookTelegram_rsc : s.tookTelegram.rsc = s.rsc := rfl

@[simp] theorem State.tookTelegram_mve : s.tookTelegram.mve = s.mve := rfl

@[simp] theorem State.tookTelegram_cwu : s.tookTelegram.cwu = s.cwu := rfl

@[simp] theorem State.tookTelegram_echo : s.tookTelegram.echo = s.echo := rfl

@[simp] theorem State.tookTelegram_evu : s.tookTelegram.evu = s.evu := rfl

@[simp] theorem State.tookTelegram_cfg : s.tookTelegram.cfg = s.cfg := rfl

@[simp] theorem State.tookTelegram_pins : s.tookTelegram.pins = s.pins := rfl

@[simp] theorem State.tookTelegram_draws : s.tookTelegram.draws = s.draws := rfl

@[simp] theorem State.tookTelegram_pending : s.tookTelegram.pending = s.pending := rfl

/-! ### State.heard -/

@[simp] theorem State.heard_lbi : s.heard.lbi = { s.lbi with silent := 0 } := rfl

@[simp] theorem State.heard_peers : s.heard.peers = s.peers := rfl

@[simp] theorem State.heard_mfe : s.heard.mfe = s.mfe := rfl

@[simp] theorem State.heard_ale : s.heard.ale = s.ale := rfl

@[simp] theorem State.heard_rsc : s.heard.rsc = s.rsc := rfl

@[simp] theorem State.heard_mve : s.heard.mve = s.mve := rfl

@[simp] theorem State.heard_cwu : s.heard.cwu = s.cwu := rfl

@[simp] theorem State.heard_echo : s.heard.echo = s.echo := rfl

@[simp] theorem State.heard_evu : s.heard.evu = s.evu := rfl

@[simp] theorem State.heard_cfg : s.heard.cfg = s.cfg := rfl

@[simp] theorem State.heard_pins : s.heard.pins = s.pins := rfl

@[simp] theorem State.heard_draws : s.heard.draws = s.draws := rfl

@[simp] theorem State.heard_pending : s.heard.pending = s.pending := rfl

/-! ### State.evaluateInterlock -/

@[simp] theorem State.evaluateInterlock_lbi : s.evaluateInterlock.lbi = s.lbi := rfl

@[simp] theorem State.evaluateInterlock_peers : s.evaluateInterlock.peers = s.peers := rfl

@[simp] theorem State.evaluateInterlock_mfe : s.evaluateInterlock.mfe = s.mfe := rfl

@[simp] theorem State.evaluateInterlock_ale : s.evaluateInterlock.ale = s.ale := rfl

@[simp] theorem State.evaluateInterlock_rsc :
    s.evaluateInterlock.rsc = { s.rsc with interlockTimer := s.rsc.interlockTimer.follow s.interlockCondition } := rfl

@[simp] theorem State.evaluateInterlock_mve : s.evaluateInterlock.mve = s.mve := rfl

@[simp] theorem State.evaluateInterlock_cwu : s.evaluateInterlock.cwu = s.cwu := rfl

@[simp] theorem State.evaluateInterlock_echo : s.evaluateInterlock.echo = s.echo := rfl

@[simp] theorem State.evaluateInterlock_evu : s.evaluateInterlock.evu = s.evu := rfl

@[simp] theorem State.evaluateInterlock_cfg : s.evaluateInterlock.cfg = s.cfg := rfl

@[simp] theorem State.evaluateInterlock_pins : s.evaluateInterlock.pins = s.pins := rfl

@[simp] theorem State.evaluateInterlock_draws : s.evaluateInterlock.draws = s.draws := rfl

@[simp] theorem State.evaluateInterlock_pending : s.evaluateInterlock.pending = s.pending := rfl

/-! ### State.alePeriod -/

@[simp] theorem State.alePeriod_lbi : s.alePeriod.lbi = s.lbi := rfl

@[simp] theorem State.alePeriod_peers : s.alePeriod.peers = s.peers := rfl

@[simp] theorem State.alePeriod_mfe : s.alePeriod.mfe = s.mfe := rfl

@[simp] theorem State.alePeriod_ale : s.alePeriod.ale = s.aleResult := rfl

@[simp] theorem State.alePeriod_rsc : s.alePeriod.rsc = s.rsc := rfl

@[simp] theorem State.alePeriod_mve : s.alePeriod.mve = { s.mve with aleActed := true } := rfl

@[simp] theorem State.alePeriod_cwu : s.alePeriod.cwu = s.cwu := rfl

@[simp] theorem State.alePeriod_echo : s.alePeriod.echo = s.echo := rfl

@[simp] theorem State.alePeriod_evu : s.alePeriod.evu = s.evu := rfl

@[simp] theorem State.alePeriod_cfg : s.alePeriod.cfg = s.cfg := rfl

@[simp] theorem State.alePeriod_pins : s.alePeriod.pins = s.pins := rfl

@[simp] theorem State.alePeriod_draws : s.alePeriod.draws = s.draws := rfl

@[simp] theorem State.alePeriod_pending : s.alePeriod.pending = s.pending := rfl

/-! ### State.startAttempt -/

@[simp] theorem State.startAttempt_lbi :
    s.startAttempt.lbi = { s.lbi with tx := .sending, contents := some s.compose, idleTime := 0 } := rfl

@[simp] theorem State.startAttempt_peers : s.startAttempt.peers = s.peers := rfl

@[simp] theorem State.startAttempt_mfe : s.startAttempt.mfe = s.mfe := rfl

@[simp] theorem State.startAttempt_ale : s.startAttempt.ale = s.ale := rfl

@[simp] theorem State.startAttempt_rsc : s.startAttempt.rsc = s.rsc := rfl

@[simp] theorem State.startAttempt_mve : s.startAttempt.mve = s.mve := rfl

@[simp] theorem State.startAttempt_cwu : s.startAttempt.cwu = s.cwu := rfl

@[simp] theorem State.startAttempt_echo : s.startAttempt.echo = s.echo := rfl

@[simp] theorem State.startAttempt_evu : s.startAttempt.evu = s.evu := rfl

@[simp] theorem State.startAttempt_cfg : s.startAttempt.cfg = s.cfg := rfl

@[simp] theorem State.startAttempt_pins : s.startAttempt.pins = s.pins := rfl

@[simp] theorem State.startAttempt_draws : s.startAttempt.draws = s.draws := rfl

@[simp] theorem State.startAttempt_pending : s.startAttempt.pending = s.pending := rfl

/-! ### State.assertReset -/

@[simp] theorem State.assertReset_lbi : s.assertReset.lbi = s.lbi := rfl

@[simp] theorem State.assertReset_peers : s.assertReset.peers = s.peers := rfl

@[simp] theorem State.assertReset_mfe : s.assertReset.mfe = s.mfe := rfl

@[simp] theorem State.assertReset_ale : s.assertReset.ale = s.ale := rfl

@[simp] theorem State.assertReset_rsc : s.assertReset.rsc = s.rsc := rfl

@[simp] theorem State.assertReset_mve : s.assertReset.mve = s.mve := rfl

@[simp] theorem State.assertReset_cwu : s.assertReset.cwu = s.cwu := rfl

@[simp] theorem State.assertReset_echo : s.assertReset.echo = s.echo := rfl

@[simp] theorem State.assertReset_evu : s.assertReset.evu = s.evu := rfl

@[simp] theorem State.assertReset_cfg : s.assertReset.cfg = s.cfg.assertReset := rfl

@[simp] theorem State.assertReset_pins : s.assertReset.pins = Pins.reset := rfl

@[simp] theorem State.assertReset_draws : s.assertReset.draws = s.draws := rfl

@[simp] theorem State.assertReset_pending : s.assertReset.pending = s.pending := rfl

/-! ### State.lbiCounts -/

@[simp] theorem State.lbiCounts_peers : s.lbiCounts.peers = s.peers := rfl

@[simp] theorem State.lbiCounts_mfe : s.lbiCounts.mfe = s.mfe := rfl

@[simp] theorem State.lbiCounts_ale : s.lbiCounts.ale = s.ale := rfl

@[simp] theorem State.lbiCounts_rsc : s.lbiCounts.rsc = s.rsc := rfl

@[simp] theorem State.lbiCounts_mve : s.lbiCounts.mve = s.mve := rfl

@[simp] theorem State.lbiCounts_cwu : s.lbiCounts.cwu = s.cwu := rfl

@[simp] theorem State.lbiCounts_echo : s.lbiCounts.echo = s.echo := rfl

@[simp] theorem State.lbiCounts_evu : s.lbiCounts.evu = s.evu := rfl

@[simp] theorem State.lbiCounts_cfg : s.lbiCounts.cfg = s.cfg := rfl

@[simp] theorem State.lbiCounts_pins : s.lbiCounts.pins = s.pins := rfl

@[simp] theorem State.lbiCounts_draws : s.lbiCounts.draws = s.draws := rfl

@[simp] theorem State.lbiCounts_pending : s.lbiCounts.pending = s.pending := rfl

/-! ### Contexts, requests and the queue -/

@[simp] theorem Mve.discard_table (m : Mve) : m.discard.table = m.table := rfl

@[simp] theorem Mve.discard_gSet (m : Mve) : m.discard.gSet = m.gSet := rfl

@[simp] theorem Mve.discard_active (m : Mve) : m.discard.active = none := rfl

@[simp] theorem Mve.discard_stack (m : Mve) : m.discard.stack = [] := rfl

@[simp] theorem Mve.discard_parked (m : Mve) : m.discard.parked = m.parked := rfl

@[simp] theorem Mve.abort_table (m : Mve) : m.abort.table = m.table := rfl

@[simp] theorem Mve.abort_gSet (m : Mve) : m.abort.gSet = m.gSet := rfl

@[simp] theorem Mve.abort_active (m : Mve) : m.abort.active = none := rfl

@[simp] theorem Mve.abort_stack (m : Mve) : m.abort.stack = [] := rfl

@[simp] theorem Mve.abort_parked (m : Mve) : m.abort.parked = none := rfl

@[simp] theorem Context.suspend_requester (c : Context) : c.suspend.requester = c.requester := rfl

@[simp] theorem Context.suspend_executed (c : Context) : c.suspend.executed = c.executed := rfl

@[simp] theorem Context.suspend_redrives (c : Context) : c.suspend.redrives = c.redrives := rfl

@[simp] theorem Context.suspend_status (c : Context) : c.suspend.status = .suspended := rfl

@[simp] theorem newContext_requester (r : Requester) (h : Head) : (newContext r h).requester = r :=
  rfl

@[simp] theorem newContext_executed (r : Requester) (h : Head) : (newContext r h).executed = 0 := rfl

@[simp] theorem Ale.zero_a (x : Ale) : x.zero.a = 0 := rfl

@[simp] theorem Ale.zero_u (x : Ale) : x.zero.u = 0 := rfl

@[simp] theorem Ale.zero_residue (x : Ale) : x.zero.residue = 0 := rfl

@[simp] theorem Ale.zero_term (x : Ale) : x.zero.term = .hold := rfl

@[simp] theorem Ale.zero_supply (x : Ale) : x.zero.supply = false := rfl

@[simp] theorem Ale.zero_cap (x : Ale) : x.zero.cap = x.cap := rfl

@[simp] theorem Ale.zero_zero (x : Ale) : x.zero.zero = x.zero := rfl

/-! ### Scale pulses, timers and the CFG after a reset -/

@[simp] theorem Mfe.pulse_pulseTimer (m : Mfe) : m.pulse.pulseTimer = .running 0 := rfl

@[simp] theorem Mfe.pulse_window (m : Mfe) : m.pulse.window = m.window := rfl

@[simp] theorem Mfe.pulse_source (m : Mfe) : m.pulse.source = m.source := rfl

@[simp] theorem Mfe.pulse_q (m : Mfe) : m.pulse.q = m.q := rfl

@[simp] theorem Mfe.pulse_estimated (m : Mfe) : m.pulse.estimated = m.estimated := rfl

@[simp] theorem Mfe.pulse_gap (m : Mfe) : m.pulse.gap = m.gap := rfl

@[simp] theorem Mfe.pulse_gapValid (m : Mfe) : m.pulse.gapValid = m.gapValid := rfl

@[simp] theorem Mfe.pulse_load (m : Mfe) : m.pulse.load = m.load := rfl

@[simp] theorem Mfe.pulse_level (m : Mfe) : m.pulse.level = m.level := rfl

@[simp] theorem Mfe.pulse_sampleBase (m : Mfe) : m.pulse.sampleBase = m.sampleBase := rfl

@[simp] theorem Timer.tick_stopped : Timer.stopped.tick = .stopped := rfl

@[simp] theorem Timer.tickBase_stopped : Timer.stopped.tickBase = .stopped := rfl

@[simp] theorem Timer.tickPulse_stopped : Timer.stopped.tickPulse = .stopped := rfl

@[simp] theorem Timer.tick_running (e : Nat) : (Timer.running e).tick = .running (e + 1) := rfl

variable (c : Cfg) (k : ResetKind)

@[simp] theorem Cfg.afterReset_validity : (c.afterReset k).validity = .loading := rfl

@[simp] theorem Cfg.afterReset_clock : (c.afterReset k).clock = .crystal := rfl

@[simp] theorem Cfg.afterReset_crystalCount : (c.afterReset k).crystalCount = 0 := rfl

@[simp] theorem Cfg.afterReset_image : (c.afterReset k).image = Image.blank := rfl

@[simp] theorem Cfg.afterReset_lastReset : (c.afterReset k).lastReset = k := rfl

@[simp] theorem Cfg.afterReset_asserted : (c.afterReset k).asserted = c.asserted.release k := rfl

@[simp] theorem Cfg.afterReset_restartWatch :
    (c.afterReset k).restartWatch = (c.clock == .internal || (c.held && c.restartWatch)) := rfl

@[simp] theorem Cfg.afterReset_crystalMissed : (c.afterReset k).crystalMissed = false := rfl

@[simp] theorem Cfg.tick_validity : c.tick.validity = c.validity := rfl

@[simp] theorem Cfg.tick_clock : c.tick.clock = c.clock := rfl

@[simp] theorem Cfg.tick_crystalCount : c.tick.crystalCount = c.crystalCount := rfl

@[simp] theorem Cfg.tick_image : c.tick.image = c.image := rfl

@[simp] theorem Cfg.tick_lastReset : c.tick.lastReset = c.lastReset := rfl

@[simp] theorem Cfg.tick_asserted : c.tick.asserted = c.asserted := rfl

@[simp] theorem Cfg.tick_held : c.tick.held = c.held := rfl

@[simp] theorem Cfg.reset_held : Cfg.reset.held = false := rfl

@[simp] theorem Cfg.assertReset_validity : c.assertReset.validity = c.validity := rfl

@[simp] theorem Cfg.assertReset_clock : c.assertReset.clock = c.clock := rfl

@[simp] theorem Cfg.assertReset_crystalCount : c.assertReset.crystalCount = c.crystalCount := rfl

@[simp] theorem Cfg.assertReset_image : c.assertReset.image = c.image := rfl

@[simp] theorem Cfg.assertReset_lastReset : c.assertReset.lastReset = c.lastReset := rfl

@[simp] theorem Cfg.assertReset_asserted : c.assertReset.asserted = c.asserted.assert := rfl

@[simp] theorem Cfg.assertReset_restartWatch :
    c.assertReset.restartWatch = (c.held && c.restartWatch) := rfl

@[simp] theorem Cfg.assertReset_crystalMissed : c.assertReset.crystalMissed = c.crystalMissed := rfl

@[simp] theorem Cfg.assertReset_held : c.assertReset.held = true := by
  cases h : c.asserted <;> simp [Cfg.held, Cfg.assertReset, ResetLines.assert, h]

/-- After the release of a kind the part is held exactly while the other reset is asserted. -/
theorem Cfg.afterReset_held_iff :
    (c.afterReset k).held = true ↔ c.asserted = .both ∨ c.asserted = .only k.other := by
  cases h : c.asserted with
  | only left => cases left <;> cases k <;> simp [Cfg.held, ResetLines.release, ResetKind.other, h]
  | _ => simp [Cfg.held, ResetLines.release, h]

@[simp] theorem Cfg.tick_restartWatch : c.tick.restartWatch = false := rfl

@[simp] theorem Cfg.tick_crystalMissed : c.tick.crystalMissed = c.crystalMissed := rfl

end Sys2Proof.Machine
end

