-- ==== Sys2Proof/Laws/Cases.lean ====
section
/-! SUPPORT. What each shared operation can do, one lemma for each, and the laws of event sets, requests and
arrangements: later proofs cite these and do not unfold the operations. -/

namespace Sys2Proof

/-! ### Arrangements -/

theorem insertAt_perm {α : Type} (a : α) (i : Nat) (l : List α) : (insertAt a i l).Perm (a :: l) := by
  induction l generalizing i with
  | nil => cases i <;> exact List.Perm.refl _
  | cons b l ih =>
    cases i with
    | zero => exact List.Perm.refl _
    | succ i => exact ((ih i).cons b).trans (List.Perm.swap a b l)

/-- Every arrangement holds the same elements. -/
theorem arrange_perm {α : Type} (k : Nat) (l : List α) : (arrange k l).Perm l := by
  induction l generalizing k with
  | nil => exact List.Perm.refl _
  | cons a l ih => exact (insertAt_perm a _ _).trans ((ih _).cons a)

namespace Machine

/-! ### Events and requests -/

theorem EventKind.bit_lt (k : EventKind) : k.bit < 20 := by cases k <;> decide

theorem EventKind.bit_injective (j k : EventKind) (h : j.bit = k.bit) : j = k := by
  cases j <;> cases k <;> first | rfl | exact absurd h (by decide)

/-- After adding a kind the set holds it and what it held. -/
@[simp] theorem EventSet.has_add (e : EventSet) (j k : EventKind) :
    (EventSet.add e j).has k = (e.has k || j == k) := by
  have h : ((2 ^ j.bit : Nat).testBit k.bit) = (j == k) := by
    rw [Nat.testBit_two_pow]
    by_cases hk : j = k
    · simp [hk]
    · have : j.bit ≠ k.bit := fun hb => hk (EventKind.bit_injective j k hb)
      simp [hk, this]
  unfold EventSet.add EventSet.has EventSet.single
  rw [BitVec.getLsbD_or, BitVec.getLsbD_twoPow]
  by_cases hk : j = k
  · subst hk; simp [EventKind.bit_lt]
  · have : j.bit ≠ k.bit := fun hb => hk (EventKind.bit_injective j k hb)
    simp [hk, this]

/-- After removing kinds the set holds the others. -/
@[simp] theorem EventSet.has_remove (e gone : EventSet) (k : EventKind) :
    (EventSet.remove e gone).has k = (e.has k && !EventSet.has gone k) := by
  simp [EventSet.remove, EventSet.has, EventKind.bit_lt]

@[simp] theorem State.raise_has (s : State) (j k : EventKind) :
    (s.raise j).evu.events.has k = (s.evu.events.has k || j == k) := by
  simp [State.raise]

@[simp] theorem RequestSet.has_put (r : RequestSet) (b : Bool) (p q : Requester) :
    (r.put b p).has q = if p = q then b else r.has q := by
  cases p <;> cases q <;> rfl

/-! ### Commands -/

/-- A command other than a reset, on a part that no reset holds. -/
theorem State.event_of_free (s : State) (f : State → State) (h : s.cfg.held = false) :
    s.event f = .next (f s).drive := by
  simp [State.event, h]

theorem State.event_of_held (s : State) (f : State → State) (h : s.cfg.held = true) :
    s.event f = .next s := by
  simp [State.event, h]

/-! ### Scale pulses and the clock -/

/-- An edge is accepted unless fewer than 25 bit times have passed since the last accepted one. -/
theorem Mfe.acceptsPulse_iff (m : Mfe) :
    m.acceptsPulse = true ↔
      m.pulseTimer = .stopped ∨ ∃ e, m.pulseTimer = .running e ∧ Config.pulseGap ≤ e := by
  cases h : m.pulseTimer <;> simp [Mfe.acceptsPulse, h]

/-- A rising edge of SCALE counts as a pulse or does nothing. -/
theorem State.scalePulse_cases (s : State) :
    (s.rsc.runState ≠ .offline ∧ s.cfg.image.watchesScale = true ∧ s.mfe.acceptsPulse = true ∧
        s.scalePulse = { s with mfe := s.mfe.pulse }) ∨
      ((s.rsc.runState = .offline ∨ s.cfg.image.watchesScale = false ∨
          s.mfe.acceptsPulse = false) ∧
        s.scalePulse = s) := by
  unfold State.scalePulse
  split <;> rename_i h
  · simp only [Bool.and_eq_true, bne_iff_ne] at h
    exact .inl ⟨h.1.1, h.1.2, h.2, rfl⟩
  · simp only [Bool.and_eq_true, bne_iff_ne, not_and, Bool.not_eq_true] at h
    refine .inr ⟨?_, rfl⟩
    by_cases ho : s.rsc.runState = .offline
    · exact .inl ho
    · cases hw : s.cfg.image.watchesScale
      · exact .inr (.inl rfl)
      · exact .inr (.inr (h ⟨ho, hw⟩))

/-! ### The move engine -/

theorem State.fault_cases (s : State) (f : FaultStatus) :
    (s.mve.active = none ∧ s.fault f = s) ∨
      ∃ c, s.mve.active = some c ∧
        ((c.requester.priority = 3 ∧ s.fault f = s.faultHigh) ∨
          (c.requester.priority ≠ 3 ∧ s.fault f = (s.park c f).selectTramp)) := by
  unfold State.fault
  cases h : s.mve.active with
  | none => exact .inl ⟨rfl, rfl⟩
  | some c =>
    refine .inr ⟨c, rfl, ?_⟩
    by_cases hp : c.requester.priority = 3
    · exact .inl ⟨hp, by simp [hp]⟩
    · exact .inr ⟨hp, by simp [hp]⟩

theorem State.selectTramp_cases (s : State) :
    s.selectTramp = s ∨
      (s.mve.requests.tramp = true ∧
        (s.selectTramp = (s.grant .tramp).1 ∨ s.selectTramp = (s.grant .tramp).1.faultHigh)) := by
  unfold State.selectTramp
  split
  · next h =>
    simp only [Bool.and_eq_true] at h
    right
    refine ⟨h.2, ?_⟩
    split
    · next heq => rw [heq]; exact .inl rfl
    · next heq => rw [heq]; exact .inr rfl
  · exact .inl rfl

theorem State.selectFree_cases (s : State) :
    s.selectFree = s ∨
      (∃ c, s.mve.stack.getLast? = some c ∧ s.selectFree = (s.resumeTop c).finish) ∨
      ∃ r, s.mve.bestRequest = some r ∧ s.selectFree = (s.grant r).finish := by
  unfold State.selectFree
  cases hs : s.mve.stack.getLast? <;> cases hr : s.mve.bestRequest
  · exact .inl rfl
  · exact .inr (.inr ⟨_, rfl, rfl⟩)
  · exact .inr (.inl ⟨_, rfl, rfl⟩)
  · dsimp only
    split
    · exact .inr (.inr ⟨_, rfl, rfl⟩)
    · exact .inr (.inl ⟨_, rfl, rfl⟩)

theorem State.select_cases (s : State) :
    s.select = s ∨ s.select = s.selectTramp ∨ (s.mve.parked = none ∧ s.select = s.selectFree) := by
  unfold State.select
  split
  · split
    · exact .inr (.inl rfl)
    · next h => exact .inr (.inr ⟨by simpa using h, rfl⟩)
  · exact .inl rfl

theorem State.grantPoint_cases (s : State) (r : Requester) :
    (s.mve.active = none ∧ s.grantPoint r = s.select) ∨
      ∃ c, s.mve.active = some c ∧
        (s.grantPoint r = s ∨
          (c.requester.priority < r.priority ∧ s.grantPoint r = s.preempt c r)) := by
  unfold State.grantPoint
  cases h : s.mve.active with
  | none => exact .inl ⟨rfl, rfl⟩
  | some c =>
    refine .inr ⟨c, rfl, ?_⟩
    dsimp only
    split
    · next hp => exact .inr ⟨hp, rfl⟩
    · exact .inl rfl

theorem State.request_cases (s : State) (r : Requester) :
    s.request r = s ∨
      (s.rsc.runState.inGroup = true ∧ s.request r = ((s.putRequest r).grantPoint r).syncHold) := by
  unfold State.request
  split
  · next h => exact .inr ⟨by simp_all, rfl⟩
  · exact .inl rfl

theorem State.reduceTest_cases (s : State) :
    s.reduceTest = s ∨
      ∃ c, s.mve.active = some c ∧ c.phase = .settle ∧
        s.reduceTest = ((s.settled c).finish).syncHold := by
  unfold State.reduceTest
  cases h : s.mve.active with
  | none => exact .inl rfl
  | some c =>
    dsimp only
    split
    · next hc => exact .inr ⟨c, rfl, by simp_all, rfl⟩
    · exact .inl rfl

theorem State.stopTest_cases (s : State) :
    s.stopTest = s ∨
      ∃ c, s.mve.active = some c ∧ c.phase = .settle ∧
        s.stopTest = ((s.settled c).finish).syncHold := by
  unfold State.stopTest
  cases h : s.mve.active with
  | none => exact .inl rfl
  | some c =>
    dsimp only
    split
    · next hc => exact .inr ⟨c, rfl, by simp_all, rfl⟩
    · exact .inl rfl

theorem State.changeHold_cases (s : State) (h : HoldSet) :
    s.changeHold h = s.setHold h ∨ s.changeHold h = (s.setHold h).reduceTest := by
  unfold State.changeHold
  dsimp only
  split
  · exact .inl rfl
  · exact .inr rfl

/-- The parts of a sample are taken one after the other, in some order. -/
theorem State.takeActs_cases (s : State) (acts : List SampleAct) :
    ∃ order : List SampleAct, order.Perm acts ∧
      (s.takeActs acts = order.foldl State.act s ∨
        s.takeActs acts = order.foldl State.act s.drawn) := by
  unfold State.takeActs
  split
  · exact ⟨[], List.Perm.refl _, .inl rfl⟩
  · next a => exact ⟨[a], List.Perm.refl _, .inl rfl⟩
  · exact ⟨_, arrange_perm _ _, .inr rfl⟩

/-- What is due is queued behind what waits, each command once, in some order. -/
theorem State.queueDue_cases (s : State) (due : List Instr) :
    ∃ order : List Instr, order.Perm due ∧
      (s.queueDue due = { s with pending := s.pending ++ order } ∨
        s.queueDue due = { s.drawn with pending := s.pending ++ order }) := by
  unfold State.queueDue
  split
  · exact ⟨[], List.Perm.refl _, .inl (by simp)⟩
  · next a => exact ⟨[a], List.Perm.refl _, .inl rfl⟩
  · exact ⟨_, arrange_perm _ _, .inr rfl⟩

/-- One bit time queues the expiries that are due, and what the idle medium brings unless a start bit has been
seen in the measurement. -/
theorem State.queueAll_cases (s : State) :
    (s.dueBus = [] ∧ s.queueAll = s.queueDue s.dueTimers) ∨
      (s.dueBus ≠ [] ∧ Config.startBitSeen s.draws = true ∧
        s.queueAll = s.drawn.startBit.queueDue s.dueTimers) ∨
      (s.dueBus ≠ [] ∧ Config.startBitSeen s.draws = false ∧
        s.queueAll = s.drawn.queueDue (s.dueTimers ++ s.dueBus)) := by
  unfold State.queueAll
  cases h : s.dueBus <;> cases hb : Config.startBitSeen s.draws <;> simp

/-- A load or a drive decision ends with its state, or faults the active record. -/
theorem Loaded.finish_cases (l : Loaded) :
    (l.2 = none ∧ l.finish = l.1) ∨ ∃ f, l.2 = some f ∧ l.finish = l.1.fault f := by
  obtain ⟨t, _ | f⟩ := l
  · exact .inl ⟨rfl, rfl⟩
  · exact .inr ⟨f, rfl, rfl⟩

end Machine

end Sys2Proof
end

