-- ==== Sys2Proof/Laws/Frames.lean ====
section
/-! SUPPORT. What each shared operation leaves alone, one lemma for each operation. -/

namespace Sys2Proof.Machine

theorem State.Keeps.refl (s : State) : s.Keeps s := ⟨rfl, rfl, rfl, rfl, rfl, rfl⟩

theorem State.Keeps.trans {s t u : State} (h : s.Keeps t) (k : t.Keeps u) : s.Keeps u :=
  ⟨k.peers.trans h.peers, k.echo.trans h.echo, k.cfg.trans h.cfg, k.pins.trans h.pins,
    k.draws.trans h.draws, k.pending.trans h.pending⟩

/-- An update of blocks outside `Keeps` keeps. -/
theorem State.Keeps.of {s t : State} {lbi : Lbi} {mfe : Mfe} {ale : Ale} {rsc : Rsc} {mve : Mve}
    {cwu : Cwu} {evu : Evu} (h : s.Keeps t) :
    s.Keeps
      { t with lbi := lbi, mfe := mfe, ale := ale, rsc := rsc, mve := mve, cwu := cwu, evu := evu } :=
  ⟨h.peers, h.echo, h.cfg, h.pins, h.draws, h.pending⟩

theorem State.raise_keeps (s : State) (k : EventKind) : s.Keeps (s.raise k) :=
  (Keeps.refl s).of

/-! ### Early telegrams, run state, hold set, trips -/

/-- An early telegram changes nothing but the LBI. -/
theorem State.early_eq (s : State) : ∃ l, s.early = { s with lbi := l } := by
  unfold State.early
  split
  · split <;> exact ⟨_, rfl⟩
  · exact ⟨_, rfl⟩

theorem State.early_keeps (s : State) : s.Keeps s.early := by
  obtain ⟨l, h⟩ := s.early_eq
  exact h ▸ (Keeps.refl s).of

@[simp] theorem State.early_mfe (s : State) : s.early.mfe = s.mfe := by
  obtain ⟨l, h⟩ := s.early_eq; rw [h]

@[simp] theorem State.early_ale (s : State) : s.early.ale = s.ale := by
  obtain ⟨l, h⟩ := s.early_eq; rw [h]

@[simp] theorem State.early_rsc (s : State) : s.early.rsc = s.rsc := by
  obtain ⟨l, h⟩ := s.early_eq; rw [h]

@[simp] theorem State.early_mve (s : State) : s.early.mve = s.mve := by
  obtain ⟨l, h⟩ := s.early_eq; rw [h]

@[simp] theorem State.early_cwu (s : State) : s.early.cwu = s.cwu := by
  obtain ⟨l, h⟩ := s.early_eq; rw [h]

@[simp] theorem State.early_evu (s : State) : s.early.evu = s.evu := by
  obtain ⟨l, h⟩ := s.early_eq; rw [h]

@[simp] theorem State.early_cfg (s : State) : s.early.cfg = s.cfg := s.early_keeps.cfg

@[simp] theorem State.early_peers (s : State) : s.early.peers = s.peers := s.early_keeps.peers

/-- A change of run state is either none, or the changes of the blocks that act on it and then the LBI's
early telegram. -/
theorem State.changeRun_eq (s : State) (new : RunState) :
    (s.rsc.runState = new ∧ s.changeRun new = s) ∨
      (s.rsc.runState ≠ new ∧ ∃ l,
        s.changeRun new =
          { s with
            lbi := l
            ale := s.ale.onRunState s.rsc.runState new
            rsc := s.rsc.onRunState new
            mve := s.mve.onRunState s.rsc.runState new
            cwu := s.cwu.onRunState s.cfg.image.role s.rsc.runState new }) := by
  unfold State.changeRun
  by_cases h : s.rsc.runState = new
  · left; simp [h]
  · right
    refine ⟨h, ?_⟩
    simp only [beq_iff_eq, h, if_false]
    obtain ⟨l, hl⟩ := State.early_eq
      { s with
        lbi := s.lbi.onRunState s.rsc.runState new
        ale := s.ale.onRunState s.rsc.runState new
        rsc := s.rsc.onRunState new
        mve := s.mve.onRunState s.rsc.runState new
        cwu := s.cwu.onRunState s.cfg.image.role s.rsc.runState new }
    exact ⟨l, hl⟩

theorem State.changeRun_keeps (s : State) (new : RunState) : s.Keeps (s.changeRun new) := by
  rcases s.changeRun_eq new with ⟨_, h⟩ | ⟨_, l, h⟩ <;> rw [h]
  · exact Keeps.refl s
  · exact (Keeps.refl s).of

@[simp] theorem State.changeRun_mfe (s : State) (new : RunState) :
    (s.changeRun new).mfe = s.mfe := by
  rcases s.changeRun_eq new with ⟨_, h⟩ | ⟨_, l, h⟩ <;> rw [h]

@[simp] theorem State.changeRun_evu (s : State) (new : RunState) :
    (s.changeRun new).evu = s.evu := by
  rcases s.changeRun_eq new with ⟨_, h⟩ | ⟨_, l, h⟩ <;> rw [h]

@[simp] theorem State.changeRun_cfg (s : State) (new : RunState) :
    (s.changeRun new).cfg = s.cfg := (s.changeRun_keeps new).cfg

@[simp] theorem State.changeRun_runState (s : State) (new : RunState) :
    (s.changeRun new).rsc.runState = new := by
  rcases s.changeRun_eq new with ⟨hs, h⟩ | ⟨_, l, h⟩
  · rw [h, hs]
  · rw [h]
    simp only [Rsc.onRunState]
    split <;> rfl

theorem State.setHold_keeps (s : State) (h : HoldSet) : s.Keeps (s.setHold h) := by
  unfold State.setHold
  split
  · exact Keeps.refl s
  · exact (((Keeps.refl s).of).trans (State.changeRun_keeps _ _)).trans (State.early_keeps _)

@[simp] theorem State.setHold_mfe (s : State) (h : HoldSet) : (s.setHold h).mfe = s.mfe := by
  unfold State.setHold; split <;> simp

@[simp] theorem State.setHold_evu (s : State) (h : HoldSet) : (s.setHold h).evu = s.evu := by
  unfold State.setHold; split <;> simp

theorem State.trip_keeps (s : State) (c : TripCause) : s.Keeps (s.trip c) := by
  unfold State.trip
  split
  · exact Keeps.refl s
  · exact Keeps.refl s
  all_goals exact (s.changeRun_keeps _).of

@[simp] theorem State.trip_mfe (s : State) (c : TripCause) : (s.trip c).mfe = s.mfe := by
  unfold State.trip; split <;> simp

/-! ### What holds along every move

A relation between the state before and the state after that holds for each effect a move is made of holds
for every operation of the move engine and of the calibration and wear unit. Each lemma below is stated once
for all such relations. -/

/-- The relation is reflexive and transitive, and holds for the effects that moves are made of: an update of
the MVE and the CWU, an event, a change of the hold set, and a trip. -/
structure Along (R : State → State → Prop) : Prop where
  refl : ∀ s, R s s
  trans : ∀ {s t u}, R s t → R t u → R s u
  moves : ∀ s mve cwu, R s { s with mve := mve, cwu := cwu }
  raise : ∀ s k, R s (s.raise k)
  setHold : ∀ s h, R s (s.setHold h)
  trip : ∀ s c, R s (s.trip c)

namespace Along

variable {R : State → State → Prop}

theorem syncHold (F : Along R) (s : State) : R s s.syncHold := F.setHold s _

theorem tripIfSelected (F : Along R) (s : State) (k : EventKind) : R s (s.tripIfSelected k) := by
  unfold State.tripIfSelected
  split
  · exact F.trip s _
  · exact F.refl s

theorem trampEnd (F : Along R) (s : State) : R s s.trampEnd := by
  unfold State.trampEnd
  split
  · exact F.refl s
  · split
    · split
      · exact F.moves s _ _
      · exact F.trip s _
    · split
      · exact F.refl s
      · exact F.moves s _ _

theorem driveDecision (F : Along R) (s : State) (c : Context) (restart : Bool) :
    R s (s.driveDecision c restart).1 := by
  unfold State.driveDecision
  split
  · exact F.moves s _ _
  · exact F.refl s

theorem settled (F : Along R) (s : State) (c : Context) : R s (s.settled c).1 :=
  F.trans (F.moves s _ _) (F.driveDecision _ _ _)

theorem enterSettle (F : Along R) (s : State) (c : Context) : R s (s.enterSettle c).1 := by
  unfold State.enterSettle
  dsimp only
  split
  · exact F.trans (F.moves s _ _) (F.settled _ _)
  · exact F.moves s _ _

theorem enterGap (F : Along R) (s : State) (c : Context) : R s (s.enterGap c).1 := by
  unfold State.enterGap
  split
  · exact F.trans (F.moves s _ _) (F.driveDecision _ _ _)
  · exact F.enterSettle s c

theorem loadActive (F : Along R) (s : State) (c : Context) : R s (s.loadActive c).1 := by
  have h : ∀ d, R s (s.setActive d) := fun d => F.moves s _ _
  unfold State.loadActive
  dsimp only
  split
  · exact h _
  · split
    · exact F.trans (h _) (F.enterGap _ _)
    · split
      · refine F.trans ?_ (F.enterGap _ _)
        split
        · exact F.trans (h _) (F.raise _ _)
        · exact h _
      · exact h _
    · exact F.trans (h _) (F.enterGap _ _)
    · exact F.moves s _ _
    · exact F.moves s _ _

theorem grant (F : Along R) (s : State) (r : Requester) : R s (s.grant r).1 :=
  F.trans (F.moves s _ _) (F.loadActive _ _)

theorem resume (F : Along R) (s : State) (c : Context) : R s (s.resume c).1 := by
  have h : ∀ d, R s (s.setActive d) := fun d => F.moves s _ _
  unfold State.resume
  dsimp only
  repeat' split
  all_goals
    first
      | exact F.trans (h _) (F.driveDecision _ _ _)
      | exact F.trans (h _) (F.enterSettle _ _)
      | exact h _

theorem faultHigh (F : Along R) (s : State) : R s s.faultHigh := F.trans (F.moves s _ _) (F.trip _ _)

theorem selectTramp (F : Along R) (s : State) : R s s.selectTramp := by
  rcases s.selectTramp_cases with h | ⟨_, h | h⟩ <;> rw [h]
  · exact F.refl s
  · exact F.grant s _
  · exact F.trans (F.grant s _) (F.faultHigh _)

theorem fault (F : Along R) (s : State) (f : FaultStatus) : R s (s.fault f) := by
  rcases s.fault_cases f with ⟨_, h⟩ | ⟨c, _, ⟨_, h⟩ | ⟨_, h⟩⟩ <;> rw [h]
  · exact F.refl s
  · exact F.faultHigh s
  · exact F.trans (F.trans (F.moves s _ _) (F.raise _ _)) (F.selectTramp _)

theorem finish (F : Along R) {s : State} (l : Loaded) (h : R s l.1) : R s l.finish := by
  unfold Loaded.finish
  split
  · exact h
  · exact F.trans h (F.fault _ _)

theorem selectFree (F : Along R) (s : State) : R s s.selectFree := by
  rcases s.selectFree_cases with h | ⟨c, _, h⟩ | ⟨r, _, h⟩ <;> rw [h]
  · exact F.refl s
  · exact F.finish _ (F.trans (F.moves s _ _) (F.resume _ _))
  · exact F.finish _ (F.grant s r)

theorem select (F : Along R) (s : State) : R s s.select := by
  rcases s.select_cases with h | h | ⟨_, h⟩ <;> rw [h]
  · exact F.refl s
  · exact F.selectTramp s
  · exact F.selectFree s

theorem preempt (F : Along R) (s : State) (c : Context) (r : Requester) : R s (s.preempt c r) :=
  F.finish _ (F.trans (F.moves s _ _) (F.grant _ _))

theorem grantPoint (F : Along R) (s : State) (r : Requester) : R s (s.grantPoint r) := by
  rcases s.grantPoint_cases r with ⟨_, h⟩ | ⟨c, _, h | ⟨_, h⟩⟩ <;> rw [h]
  · exact F.select s
  · exact F.refl s
  · exact F.preempt s c r

theorem request (F : Along R) (s : State) (r : Requester) : R s (s.request r) := by
  rcases s.request_cases r with h | ⟨_, h⟩ <;> rw [h]
  · exact F.refl s
  · exact F.trans (F.trans (F.moves s _ _) (F.grantPoint _ _)) (F.syncHold _)

theorem requestChain (F : Along R) (s : State) (r : Requester) : R s (s.requestChain r) := by
  unfold State.requestChain
  split
  · exact F.request s r
  · exact F.refl s

theorem endChain (F : Along R) (s : State) (c : Context) : R s (s.endChain c) := by
  unfold State.endChain
  dsimp only
  split
  · exact F.trans (F.trans (F.moves s _ _) (F.trampEnd _)) (F.select _)
  · exact F.trans (F.moves s _ _) (F.select _)

theorem complete (F : Along R) (s : State) (c : Context) : R s (s.complete c) := by
  have h : R s ((s.stopMoveTimers.updateSlot c).notifyChain c) := by
    unfold State.notifyChain State.updateSlot
    split <;> split
    · exact F.trans (F.moves s _ _) (F.raise _ _)
    · exact F.trans (F.moves s _ _) (F.raise _ _)
    · exact F.moves s _ _
    · exact F.moves s _ _
  unfold State.complete
  dsimp only
  split
  · exact F.trans h (F.endChain _ _)
  · split
    · exact F.trans (F.trans h (F.moves _ _ _)) (F.fault _ _)
    · exact F.finish _ (F.trans h (F.loadActive _ _))

theorem reduceTest (F : Along R) (s : State) : R s s.reduceTest := by
  rcases s.reduceTest_cases with h | ⟨c, _, _, h⟩ <;> rw [h]
  · exact F.refl s
  · exact F.trans (F.finish _ (F.settled s c)) (F.syncHold _)

theorem stopTest (F : Along R) (s : State) : R s s.stopTest := by
  rcases s.stopTest_cases with h | ⟨c, _, _, h⟩ <;> rw [h]
  · exact F.refl s
  · exact F.trans (F.finish _ (F.settled s c)) (F.syncHold _)

theorem changeHold (F : Along R) (s : State) (h : HoldSet) : R s (s.changeHold h) := by
  rcases s.changeHold_cases h with e | e <;> rw [e]
  · exact F.setHold s h
  · exact F.trans (F.setHold s h) (F.reduceTest _)

theorem driveSample (F : Along R) (s : State) (c : Context) (d : Direction) (target : Nat) :
    R s (s.driveSample c d target) := by
  unfold State.driveSample
  split
  · exact F.fault s _
  · dsimp only
    split <;> split <;> exact F.moves s _ _

theorem verifySample (F : Along R) (s : State) (c : Context) (n target : Nat) :
    R s (s.verifySample c n target) := by
  unfold State.verifySample
  split
  · exact F.fault s _
  · split
    · split
      · exact F.moves s _ _
      · exact F.complete s _
    · split
      · exact F.finish _ (F.driveDecision s _ _)
      · exact F.fault s _

theorem settleExpired (F : Along R) (s : State) : R s s.settleExpired := by
  unfold State.settleExpired
  split
  · exact F.refl s
  · split
    · exact F.trans (F.fault s _) (F.syncHold _)
    · exact F.refl s

theorem recordExpired (F : Along R) (s : State) : R s s.recordExpired := by
  unfold State.recordExpired
  split
  · exact F.refl s
  · split
    all_goals
      first
        | exact F.trans (F.fault s _) (F.syncHold _)
        | exact F.refl s

theorem remainingExpired (F : Along R) (s : State) : R s s.remainingExpired := by
  unfold State.remainingExpired
  split
  · exact F.refl s
  · split
    · exact F.trans (F.complete s _) (F.syncHold _)
    · exact F.refl s

theorem retryPreempt (F : Along R) (s : State) : R s s.retryPreempt := by
  unfold State.retryPreempt
  split
  · split
    · exact F.preempt s _ _
    · exact F.refl s
  · exact F.refl s

theorem retry (F : Along R) (s : State) (c : Context) : R s (s.retry c) := by
  have h : R s
      (State.loadActive { s with mve := { s.mve with parked := none } } { c with executed := 0 }).1 :=
    F.trans (F.moves s _ _) (F.loadActive _ _)
  unfold State.retry
  dsimp only
  split
  · exact F.trans (F.trans h (F.retryPreempt _)) (F.syncHold _)
  · exact F.trans (F.trans h (F.fault _ _)) (F.syncHold _)

theorem discardFault (F : Along R) (s : State) : R s s.discardFault :=
  F.trans (F.trans (F.moves s _ _) (F.select _)) (F.syncHold _)

theorem afterQA (F : Along R) (s t : State) : R t (s.afterQA t) := by
  unfold State.afterQA
  split
  · exact F.refl t
  · exact F.reduceTest t

/-! ### Contact and the notices of samples

Here the gap may be converted again, so the relation must hold for that too. -/

theorem acceptContact (F : Along R) (hg : ∀ s : State, R s s.reconvertGap) (s : State) (rc : Nat)
    (w : Int) (reference : Bool) : R s (s.acceptContact rc w reference) := by
  have h : R s (s.setZero rc) := F.trans (F.moves s _ _) (hg _)
  unfold State.acceptContact
  dsimp only
  repeat' split
  all_goals
    first
      | exact F.trans (F.trans (F.trans h (F.moves _ _ _)) (F.raise _ _)) (F.raise _ _)
      | exact F.trans (F.trans h (F.moves _ _ _)) (F.raise _ _)

theorem afterRejection (F : Along R) (s : State) : R s s.afterRejection := by
  unfold State.afterRejection
  dsimp only
  split <;> split
  · exact F.trans (F.raise _ _) (F.moves _ _ _)
  · exact F.raise _ _
  · exact F.moves _ _ _
  · exact F.refl _

theorem evaluateContact (F : Along R) (hg : ∀ s : State, R s s.reconvertGap) (s : State) :
    R s s.evaluateContact := by
  unfold State.evaluateContact
  dsimp only
  split
  · exact F.trans (F.trans (F.moves s _ _) (F.acceptContact hg _ _ _ _)) (F.moves _ _ _)
  · exact F.trans (F.trans (F.trans (F.moves s _ _) (F.raise _ _)) (F.moves _ _ _))
      (F.afterRejection _)

theorem contact (F : Along R) (hg : ∀ s : State, R s s.reconvertGap) (s : State) (c : Context) :
    R s (s.contact c) :=
  F.trans (F.trans (F.moves s _ _) (F.evaluateContact hg _)) (F.complete _ _)

theorem touchSample (F : Along R) (hg : ∀ s : State, R s s.reconvertGap) (s : State) (c : Context) :
    R s (s.touchSample c) := by
  unfold State.touchSample
  split
  · exact F.fault s _
  · dsimp only
    split
    · exact F.trans (F.moves s _ _) (F.contact hg _ _)
    · exact F.moves s _ _

theorem gapNotice (F : Along R) (hg : ∀ s : State, R s s.reconvertGap) (s : State) :
    R s s.gapNotice := by
  unfold State.gapNotice
  split
  · exact F.refl s
  · split
    · exact F.trans (F.driveSample s _ _ _) (F.syncHold _)
    · exact F.trans (F.verifySample s _ _ _) (F.syncHold _)
    · exact F.trans (F.touchSample hg s _) (F.syncHold _)
    · exact F.refl s

theorem loadNotice (F : Along R) (hg : ∀ s : State, R s s.reconvertGap) (s : State) :
    R s s.loadNotice := by
  unfold State.loadNotice
  split
  · exact F.refl s
  · split
    · dsimp only
      split
      · exact F.trans (F.trans (F.moves s _ _) (F.contact hg _ _)) (F.syncHold _)
      · exact F.moves s _ _
    · exact F.stopTest s

/-- What follows within a sample. -/
theorem act (F : Along R) (hg : ∀ s : State, R s s.reconvertGap) (s : State) (a : SampleAct) :
    R s (s.act a) := by
  cases a with
  | selected k => exact F.tripIfSelected s k
  | overload =>
    unfold State.act State.overloadNotice
    dsimp only
    split
    · exact F.trans (F.changeHold s _) (F.requestChain _ _)
    · exact F.changeHold s _
  | levelHigh => exact F.changeHold s _
  | load => exact F.loadNotice hg s
  | gap => exact F.gapNotice hg s

end Along

/-! ### Four such relations -/

/-- No move touches the blocks of `Keeps`. -/
theorem State.Keeps.along : Along State.Keeps where
  refl := Keeps.refl
  trans := Keeps.trans
  moves s _ _ := (Keeps.refl s).of
  raise := State.raise_keeps
  setHold := State.setHold_keeps
  trip := State.trip_keeps

theorem State.reconvertGap_keeps (s : State) : s.Keeps s.reconvertGap := by
  unfold State.reconvertGap
  split
  · exact (Keeps.refl s).of
  · exact Keeps.refl s

/-- No move touches the MFE, but for the gap at a contact. -/
theorem Mfe.along : Along fun s t => t.mfe = s.mfe where
  refl _ := rfl
  trans h k := k.trans h
  moves _ _ _ := rfl
  raise _ _ := rfl
  setHold := State.setHold_mfe
  trip := State.trip_mfe

/-- What an early telegram leaves of the LBI: the receiving side, and the counts of silent and of quiet
periods. -/
structure Lbi.SameReception (l m : Lbi) : Prop where
  rx : m.rx = l.rx
  rxBytes : m.rxBytes = l.rxBytes
  rxDriven : m.rxDriven = l.rxDriven
  silent : m.silent = l.silent
  dupQuiet : m.dupQuiet = l.dupQuiet

theorem Lbi.SameReception.refl (l : Lbi) : l.SameReception l := ⟨rfl, rfl, rfl, rfl, rfl⟩

theorem Lbi.SameReception.trans {l m n : Lbi} (h : l.SameReception m) (k : m.SameReception n) :
    l.SameReception n :=
  ⟨k.rx.trans h.rx, k.rxBytes.trans h.rxBytes, k.rxDriven.trans h.rxDriven, k.silent.trans h.silent,
    k.dupQuiet.trans h.dupQuiet⟩

theorem State.early_sameReception (s : State) : s.lbi.SameReception s.early.lbi := by
  unfold State.early
  split
  · split <;> exact ⟨rfl, rfl, rfl, rfl, rfl⟩
  · exact .refl _

theorem State.changeRun_sameReception (s : State) (new : RunState) :
    s.lbi.SameReception (s.changeRun new).lbi := by
  unfold State.changeRun
  split
  · exact .refl _
  · refine .trans ?_ (State.early_sameReception _)
    unfold Lbi.onRunState
    dsimp only
    split <;> exact ⟨rfl, rfl, rfl, rfl, rfl⟩

/-- No move touches the receiving side. -/
theorem Lbi.along : Along fun s t => s.lbi.SameReception t.lbi where
  refl s := .refl s.lbi
  trans h k := h.trans k
  moves s _ _ := .refl s.lbi
  raise s _ := .refl s.lbi
  setHold s h := by
    unfold State.setHold
    split
    · exact .refl _
    · refine .trans ?_ (State.early_sameReception _)
      exact State.changeRun_sameReception { s with ale := _, rsc := { s.rsc with hold := h } } _
  trip s c := by
    unfold State.trip
    split
    · exact .refl _
    · exact .refl _
    all_goals exact (s.changeRun_sameReception .tripped : s.lbi.SameReception (s.changeRun _).lbi)

/-- What every command but a few keeps: OFFLINE and every other state stay apart, pending events stay, and in
TRIPPED the RSC stays (R84, R103, R186). -/
structure State.Steady (s t : State) : Prop where
  offline : t.rsc.runState = .offline ↔ s.rsc.runState = .offline
  events : ∀ k : EventKind, s.evu.events.has k = true → t.evu.events.has k = true
  tripped : s.rsc.runState = .tripped → t.rsc = s.rsc

theorem State.Steady.refl (s : State) : s.Steady s := ⟨Iff.rfl, fun _ h => h, fun _ => rfl⟩

theorem State.Steady.trans {s t u : State} (h : s.Steady t) (k : t.Steady u) : s.Steady u :=
  ⟨k.offline.trans h.offline, fun e he => k.events e (h.events e he), fun ht =>
    (k.tripped ((h.tripped ht).symm ▸ ht)).trans (h.tripped ht)⟩

/-- The run state that a hold set gives is OFFLINE or TRIPPED only where it was. -/
theorem RunState.withHold_inGroup (r : RunState) (h : HoldSet) (hr : r.inGroup = true) :
    (r.withHold h).inGroup = true := by
  cases r <;> cases hb : h.isEmpty <;> simp_all [RunState.withHold, RunState.inGroup]

theorem State.setHold_steady (s : State) (h : HoldSet) : s.Steady (s.setHold h) := by
  by_cases hs : s.setHold h = s
  · rw [hs]; exact .refl s
  · have hg : s.rsc.runState.inGroup = true := by
      by_contra hn
      exact hs (by simp [State.setHold, hn])
    have hr : (s.setHold h).rsc.runState.inGroup = true := by
      unfold State.setHold
      split
      · exact hg
      · simpa using RunState.withHold_inGroup _ h hg
    refine ⟨?_, fun k hk => by simpa using hk, fun ht => by simp [ht, RunState.inGroup] at hg⟩
    constructor <;> intro ho <;> simp [ho, RunState.inGroup] at hg hr

theorem State.trip_steady (s : State) (c : TripCause) : s.Steady (s.trip c) := by
  unfold State.trip
  split
  · exact .refl s
  · exact .refl s
  all_goals
    next h =>
      refine ⟨?_, fun k hk => ?_, fun ht => ?_⟩
      · simp [h, State.raise]
      · rw [State.raise_has]; simpa using .inl hk
      · rw [h] at ht; cases ht

/-- Every move leaves OFFLINE, the pending events and TRIPPED as they are. -/
theorem State.Steady.along : Along State.Steady where
  refl := .refl
  trans := .trans
  moves _ _ _ := ⟨Iff.rfl, fun _ h => h, fun _ => rfl⟩
  raise s k := ⟨Iff.rfl, fun e he => by rw [State.raise_has, he]; rfl, fun _ => rfl⟩
  setHold := State.setHold_steady
  trip := State.trip_steady

/-! ### The run-state controller -/

theorem State.evaluateDrain_keeps (s : State) : s.Keeps s.evaluateDrain := by
  unfold State.evaluateDrain
  split
  · exact (Keeps.refl s).of
  · exact Keeps.refl s

theorem State.enterGroup_keeps (s : State) : s.Keeps s.enterGroup := by
  have h : s.Keeps s.enterStates.evaluateInterlock := ((s.changeRun_keeps _).of).of
  have k : s.Keeps
      (State.select
        { s.enterStates.evaluateInterlock with
          mve := { s.enterStates.evaluateInterlock.mve with requests := s.entryRequests } }).syncHold :=
    ((h.of).trans (Keeps.along.select _)).trans (Keeps.along.syncHold _)
  unfold State.enterGroup
  dsimp only
  split
  · exact k.trans (State.trip_keeps _ _)
  · exact k

theorem State.evaluateProceed_keeps (s : State) : s.Keeps s.evaluateProceed := by
  unfold State.evaluateProceed State.proceed
  dsimp only
  split
  · split
    · exact ((Keeps.refl s).of).trans (State.enterGroup_keeps _)
    · exact (Keeps.refl s).of
  · exact Keeps.refl s

theorem State.evaluateLine_keeps (s : State) : s.Keeps s.evaluateLine := by
  unfold State.evaluateLine
  split
  · exact ((s.setHold_keeps _).of).trans (State.evaluateDrain_keeps _)
  · exact s.evaluateProceed_keeps

theorem State.neighbourNotice_keeps (s : State) : s.Keeps s.neighbourNotice :=
  s.evaluateLine_keeps.trans (Keeps.along.stopTest _)

theorem State.afterTable_keeps (s t : State) : t.Keeps (s.afterTable t) := by
  unfold State.afterTable
  split
  · exact t.neighbourNotice_keeps
  · exact Keeps.refl t

end Sys2Proof.Machine
end

