-- ==== Sys2Proof/Laws/Peers.lean ====
section
/-! SUPPORT. What the downstream set, the upstream set and the supply bin are, and when a change of the table
alters them, one lemma for each operation. -/

namespace Sys2Proof.Machine

@[simp] theorem branchCompatible_iff (b e : Nat) :
    branchCompatible b e = true ↔ b = 0 ∨ e = 0 ∨ b = e := by
  simp [branchCompatible, or_assoc]

/-! ### The sets -/

theorem State.mem_downstream (s : State) (e : PeerEntry) :
    e ∈ s.downstream ↔
      e ∈ s.peers ∧ e.age ≤ s.cfg.image.lF ∧ e.position = s.cfg.image.position + 1 ∧
        branchCompatible s.cfg.image.branch e.branch = true := by
  simp [State.downstream, PeerEntry.fresh, and_assoc]

theorem State.mem_upstream (s : State) (e : PeerEntry) :
    e ∈ s.upstream ↔
      e ∈ s.peers ∧ e.age ≤ s.cfg.image.lF ∧ e.position + 1 = s.cfg.image.position ∧
        branchCompatible s.cfg.image.branch e.branch = true := by
  simp [State.upstream, PeerEntry.fresh, and_assoc]

theorem State.downstream_sublist (s : State) : s.downstream.Sublist s.peers := List.filter_sublist

theorem State.upstream_sublist (s : State) : s.upstream.Sublist s.peers := List.filter_sublist

/-! ### The supply bin -/

/-- In an ascending list the first entry with a property is the one with the least number. -/
theorem find?_eq_some_iff_least (p : PeerEntry → Bool) (l : List PeerEntry)
    (h : l.Pairwise (fun a b => a.number < b.number)) (e : PeerEntry) :
    l.find? p = some e ↔ e ∈ l ∧ p e = true ∧ ∀ f ∈ l, p f = true → e.number ≤ f.number := by
  induction l with
  | nil => simp
  | cons a l ih =>
    obtain ⟨ha, hl⟩ := List.pairwise_cons.1 h
    by_cases hp : p a = true
    · simp only [List.find?_cons, hp, Option.some.injEq]
      constructor
      · rintro rfl
        refine ⟨List.mem_cons_self, hp, fun f hf _ => ?_⟩
        rcases List.mem_cons.1 hf with rfl | hf
        · exact le_rfl
        · exact (ha f hf).le
      · rintro ⟨he, -, hmin⟩
        rcases List.mem_cons.1 he with rfl | he
        · rfl
        · exact absurd (hmin a List.mem_cons_self hp) (not_le.2 (ha e he))
    · simp only [List.find?_cons, hp, ih hl, List.mem_cons]
      constructor
      · rintro ⟨he, hpe, hmin⟩
        refine ⟨.inr he, hpe, ?_⟩
        rintro f (rfl | hf) hf'
        · exact absurd hf' hp
        · exact hmin f hf hf'
      · rintro ⟨he, hpe, hmin⟩
        rcases he with rfl | he
        · exact absurd hpe hp
        · exact ⟨he, hpe, fun f hf => hmin f (.inr hf)⟩

theorem State.supplyBin_eq_some_iff (s : State)
    (h : s.peers.Pairwise (fun a b => a.number < b.number)) (e : PeerEntry) :
    s.supplyBin = some e ↔
      s.cfg.image.role = .feeder ∧ e ∈ s.upstream ∧ e.role = .bin ∧
        ∀ f ∈ s.upstream, f.role = .bin → e.number ≤ f.number := by
  have hu := h.sublist s.upstream_sublist
  unfold State.supplyBin
  split <;> simp_all [find?_eq_some_iff_least _ _ hu]

/-! ### The neighbour notice -/

theorem mem_levelReadOf (s t : State) (n : Nat) :
    n ∈ levelReadOf s t ↔
      (∃ b, s.supplyBin = some b ∧ b.number = n) ∨ ∃ b, t.supplyBin = some b ∧ b.number = n := by
  simp [levelReadOf]

/-- Two entries look the same to a notice. -/
theorem PeerEntry.view_eq_iff (bins : List Nat) (e f : PeerEntry) :
    e.view bins = f.view bins ↔
      f.number = e.number ∧ f.runState = e.runState ∧ f.allowance = e.allowance ∧
        f.throughput = e.throughput ∧ (e.number ∈ bins → f.level = e.level) := by
  simp only [PeerEntry.view, MemberView.mk.injEq]
  constructor
  · rintro ⟨hn, hr, ha, ht, hl⟩
    refine ⟨hn.symm, hr.symm, ha.symm, ht.symm, fun hb => ?_⟩
    simpa [hb, hn ▸ hb] using hl.symm
  · rintro ⟨hn, hr, ha, ht, hl⟩
    refine ⟨hn.symm, hr.symm, ha.symm, ht.symm, ?_⟩
    rw [hn]
    split
    · next hb => exact (hl hb).symm
    · rfl

/-- Two ascending sets look the same to a notice exactly when they have the same members and each of them
looks the same. -/
theorem map_view_eq_iff (bins : List Nat) (as bs : List PeerEntry)
    (ha : as.Pairwise (fun a b => a.number < b.number))
    (hb : bs.Pairwise (fun a b => a.number < b.number)) :
    as.map (PeerEntry.view bins) = bs.map (PeerEntry.view bins) ↔
      (∀ e ∈ as, ∃ f ∈ bs, f.number = e.number) ∧ (∀ f ∈ bs, ∃ e ∈ as, e.number = f.number) ∧
      ∀ e ∈ as, ∀ f ∈ bs, f.number = e.number → e.view bins = f.view bins := by
  induction as generalizing bs with
  | nil =>
    cases bs with
    | nil => simp
    | cons b bs => simpa using ⟨b, fun h => absurd rfl h⟩
  | cons a as ih =>
    cases bs with
    | nil => simpa using ⟨a, fun h => absurd rfl h⟩
    | cons b bs =>
      obtain ⟨ha1, ha2⟩ := List.pairwise_cons.1 ha
      obtain ⟨hb1, hb2⟩ := List.pairwise_cons.1 hb
      simp only [List.map_cons, List.cons.injEq, ih bs ha2 hb2]
      constructor
      · rintro ⟨hab, hsub, hsup, hsame⟩
        have hn : b.number = a.number := ((PeerEntry.view_eq_iff _ _ _).1 hab).1
        refine ⟨?_, ?_, ?_⟩
        · intro e he
          rcases List.mem_cons.1 he with rfl | he
          · exact ⟨b, List.mem_cons_self, hn⟩
          · obtain ⟨f, hf, hfe⟩ := hsub e he
            exact ⟨f, List.mem_cons_of_mem _ hf, hfe⟩
        · intro f hf
          rcases List.mem_cons.1 hf with rfl | hf
          · exact ⟨a, List.mem_cons_self, hn.symm⟩
          · obtain ⟨e, he, hef⟩ := hsup f hf
            exact ⟨e, List.mem_cons_of_mem _ he, hef⟩
        · intro e he f hf hfe
          rcases List.mem_cons.1 he with rfl | he <;> rcases List.mem_cons.1 hf with rfl | hf
          · exact hab
          · have := hb1 f hf; omega
          · have := ha1 e he; omega
          · exact hsame e he f hf hfe
      · rintro ⟨hsub, hsup, hsame⟩
        have hn : b.number = a.number := by
          obtain ⟨f, hf, hfa⟩ := hsub a List.mem_cons_self
          obtain ⟨e, he, heb⟩ := hsup b List.mem_cons_self
          rcases List.mem_cons.1 hf with rfl | hf
          · exact hfa
          · rcases List.mem_cons.1 he with rfl | he
            · exact heb.symm
            · have := hb1 f hf; have := ha1 e he; omega
        refine ⟨hsame a List.mem_cons_self b List.mem_cons_self hn, ?_, ?_, ?_⟩
        · intro e he
          obtain ⟨f, hf, hfe⟩ := hsub e (List.mem_cons_of_mem _ he)
          rcases List.mem_cons.1 hf with rfl | hf
          · have := ha1 e he; omega
          · exact ⟨f, hf, hfe⟩
        · intro f hf
          obtain ⟨e, he, hef⟩ := hsup f (List.mem_cons_of_mem _ hf)
          rcases List.mem_cons.1 he with rfl | he
          · have := hb1 f hf; omega
          · exact ⟨e, he, hef⟩
        · intro e he f hf
          exact hsame e (List.mem_cons_of_mem _ he) f (List.mem_cons_of_mem _ hf)

theorem neighboursChanged_eq_false_iff (s t : State) :
    neighboursChanged s t = false ↔
      s.downstream.map (PeerEntry.view (levelReadOf s t)) =
        t.downstream.map (PeerEntry.view (levelReadOf s t)) ∧
      s.upstream.map (PeerEntry.view (levelReadOf s t)) =
        t.upstream.map (PeerEntry.view (levelReadOf s t)) := by
  simp [neighboursChanged]

end Sys2Proof.Machine
end

