-- ==== Sys2Proof/Tests/Slice0.lean ====
section
/-! SUPPORT. Tests: the well-formedness checks, the manual's worked examples (their values come from spec/,
at the section each test names), and for each statement with hypotheses a state that meets them. -/

namespace Sys2Proof.Tests

open Sys2Proof Sys2Proof.Machine

set_option Elab.async false

/-! ### Stations of the manual's line (spec/02, section 2.9) -/

/-- A record with few fields set. -/
def rec (kind : RecordKind) (argument : Int) (feed : Feed) (timeout : Nat) (stop : Bool) (next : Nat) :
    MoveRecord :=
  { MoveRecord.blank with
    kind := kind, argument := argument, feed := feed, timeout := timeout, stop := stop, next := next }

/-- Slots 1 to 31 with the chains of spec/06 section 6.9 and spec/07 section 7.7. -/
def slots : List MoveRecord :=
  List.replicate 4 MoveRecord.blank ++
    [rec .touch 0 .none 90 false 6, { rec .gapTo 0 .none 60 true 0 with targetSource := .standing }] ++
    List.replicate 5 MoveRecord.blank ++
    [rec .gapBy (-20) .reduce 30 false 13, rec .dwell 20 .reduce 1 true 0] ++
    List.replicate 6 MoveRecord.blank ++
    [rec .gapBy 300 .stop 60 false 21, rec .dwell 5 .stop 1 false 22,
      { rec .gapTo 0 .stop 60 true 0 with targetSource := .standing }] ++
    List.replicate 9 MoveRecord.blank

/-- Cone 11. -/
def cone : Image :=
  { Image.blank with
    number := 11, role := .crusher, position := 5, branch := 1, terminal := true, aTerm := 350
    panel1 := 28, panel2 := 29, tB := 250, lF := 3, kp := 300, r0Init := 812, w := 5, pOvl := 1100
    pLim := 1000, pIdle := 50, pTouch := 500, lHigh := 900, lSet := 700, kc := 120, kl := 40
    rRed := 400, gMin := 200, gMax := 500, gInit := 250, db := 3, qIdle := 20, wJump := 40
    wMax := 250, settleLimit := 60, calInterval := 480, orderTimeout := 60
    headTramp := ⟨20, false⟩, headOverload := ⟨12, true⟩, headCalibrate := ⟨5, false⟩
    headStart := ⟨12, false⟩, headSchedule := ⟨5, false⟩ }

/-- Feeder 8. -/
def feeder : Image :=
  { Image.blank with
    number := 8, role := .feeder, position := 4, branch := 1, panel1 := 28, panel2 := 29, tB := 250
    lF := 3, w := 5, fMax := 400, uMin := 150, duUp := 40, lLow := 150, gMax := 500, rRed := 400 }

/-- Bin 6. -/
def bin : Image :=
  { Image.blank with
    number := 6, role := .bin, position := 3, panel1 := 28, tB := 250, lF := 3, lTgt := 700
    mBin := 500, tH := 600, gMax := 500, noFeedback := true }

/-- A loaded station in a run state, with the items that go with it. -/
def station (i : Image) (r : RunState) : State :=
  { State.reset with
    cfg := { Cfg.reset with validity := .valid, image := i }
    lbi := { Lbi.reset with periodTimer := .running 0 }
    mve := { Mve.reset with table := orderRecord i i.gInit :: slots, gSet := i.gInit }
    cwu := { Cwu.reset with r0 := i.r0Init, r0Set := true, due := false }
    rsc :=
      { Rsc.reset with
        runState := r
        subPhase := if r = .starting then some .waitDownstream else none
        tripCause := if r = .tripped then some .pullcord else none
        hold := { HoldSet.empty with ordered := r == .holding } } }

/-- Entry of a running neighbour. -/
def peer (number position branch : Nat) (role : Role) (allowance throughput : Nat) : PeerEntry :=
  { number := number
    role := role
    position := position
    branch := branch
    runState := .running
    allowance := allowance
    throughput := throughput
    level := none
    age := 0 }

/-- An order of panel 28 to all stations. -/
def head : OrderHead := ⟨28#8, 31#8, 7#8⟩

/-- The next state; the state itself when there is none. -/
def after (i : Instr) (s : State) : State :=
  match exec i s with
  | .next t => t
  | .fault _ => s
  | .refused _ => s

/-- One context at a slot. -/
def context (r : Requester) (slot : Nat) (record : MoveRecord) (work : Working) (phase : Phase) :
    Context :=
  { newContext r ⟨slot, false⟩ with record := record, work := work, phase := phase }

/-- With a valid gap. -/
def withGap (gap : Nat) (s : State) : State :=
  { s with mfe := { s.mfe with gap := gap, gapValid := true, gapSampled := true } }

/-- The cone with this active context and a gap of 254. -/
def moving (c : Context) : State :=
  withGap 254
    { station cone .running with mve := { (station cone .running).mve with active := some c } }

/-! ### Well-formedness: each check refuses an ill-formed command -/

theorem test_wellFormed_load_refuses_short_read :
    (Instr.imageLoadEnd (List.replicate 346 255#8)).wellFormed = false := by decide +kernel

theorem test_wellFormed_own_telegram_refuses_source_31 (t : StateTelegram) :
    (Instr.stateTelegram true { t with source := 31#8 }).wellFormed = false := by
  simp [Instr.wellFormed]

theorem test_wellFormed_unknownKind_refuses_known_kind :
    (Instr.unknownKind head 1#8 none).wellFormed = false := by decide +kernel

theorem test_wellFormed_accepts :
    (Instr.unknownKind head 15#8 none).wellFormed = true ∧
      (Instr.imageLoadEnd [255#8, 255#8, 0#8, 4#8]).wellFormed = true := by decide +kernel

/-- No row of the table gives bits, so no word spells a command. -/
theorem test_decodeTableWord_none : decodeTableWord 16 0xC501 = none := rfl

/-! ### Measured quantities (spec/03, section 3.7) -/

theorem test_gap_of_raw :
    gapOfRaw 812 300 1030 = 255 ∧ gapOfRaw 812 300 1031 = 256 ∧ gapOfRaw 812 300 1029 = 254 ∧
      gapOfRaw 812 300 800 = 0 := by decide +kernel

theorem test_gap_sample_wire_fault :
    let s := moving (context .start 12 MoveRecord.blank .none .load)
    (after (.sampleEvent .gapPos 4095#12) s).mfe.gap = 254 ∧
      (after (.sampleEvent .gapPos 4095#12) s).mfe.gapValid = false ∧
      (after (.sampleEvent .gapPos 4095#12) s).evu.events.has .gapSensor = true := by decide +kernel

theorem test_scale_throughput :
    scaleThroughput 5 250 ([4, 4, 4, 4, 4, 4, 4, 4, 4, 4, 4, 4, 4, 4, 3, 3]) = 279 := by decide +kernel

theorem test_scale_is_lost_at_16 :
    let s0 := station cone .running
    let s :=
      { s0 with
        mfe := { s0.mfe with load := 900, watchdog := 15, window := List.replicate 16 0 }
        peers := [peer 8 4 1 .feeder 0 301] }
    s.mfePeriod.mfe.source = .estimate ∧ s.mfePeriod.mfe.q = 301 ∧ s.mfePeriod.mfe.watchdog = 0 ∧
      s.mfePeriod.evu.events.has .scaleLost = true := by decide +kernel

theorem test_overload_counts :
    conditionStep false 3 4 true false = (true, 0) ∧ conditionStep false 2 4 false false = (false, 0) ∧
      conditionStep true 3 4 false true = (false, 0) := by decide +kernel

theorem test_load_and_level_saturate :
    loadOfCount 4000 = 1500 ∧ loadOfCount 4095 = 1500 ∧ levelOfCount 4095 = 1000 ∧
      levelOfCount 2480 = 620 := by decide +kernel

theorem test_level_sample :
    (after (.sampleEvent .level 2480#12) (station cone .running)).mfe.level = 620 := by
  decide +kernel

theorem test_scale_pulse_counts :
    let s := { station cone .ready with mfe := { Mfe.reset with watchdog := 9, pulses := 65535 } }
    (after .scalePulse s).mfe.pulses = 65535 ∧ (after .scalePulse s).mfe.watchdog = 0 := by
  decide +kernel

/-- Less than 100 us, 25 bit times, after the last accepted pulse an edge is not counted (R43). -/
theorem test_scale_pulse_needs_100_us :
    let s (t : Timer) : State := { station cone .ready with mfe := { Mfe.reset with pulseTimer := t } }
    (after .scalePulse (s (.running 24))).mfe.pulses = 0 ∧
      (after .scalePulse (s (.running 24)).tick).mfe.pulses = 1 ∧
      (after .scalePulse (s .stopped)).mfe.pulseTimer = .running 0 ∧
      (after .scalePulse (after .scalePulse (s .stopped))).mfe.pulses = 1 := by decide +kernel

/-! ### Allowance and feed command (spec/04, section 4.11) -/

/-- Cone 11 at the period expiry of the example. -/
def conePeriod (level : Nat) (valid : Bool) (gSet : Nat) : State :=
  let s := station cone .running
  { s with
    mfe := { s.mfe with gap := 250, gapValid := valid, load := 900, q := 280, level := level }
    mve := { s.mve with gSet := gSet } }

theorem test_cone_allowance :
    (conePeriod 620 true 250).aleResult.a = 300 ∧ (conePeriod 620 true 250).aleResult.term = .gap ∧
      (conePeriod 900 true 250).aleResult.a = 0 ∧
      (conePeriod 900 true 250).aleResult.term = .level ∧
      (conePeriod 620 false 260).aleResult.a = 311 ∧
      (conePeriod 620 false 260).aleResult.term = .power := by decide +kernel

theorem test_feeder_command :
    feedCommand feeder none 752 301 150 = ⟨752, 350⟩ ∧
      feedCommand feeder none 752 301 350 = ⟨753, 150⟩ ∧
      feedCommand feeder none 700 301 150 = ⟨740, 0⟩ ∧
      feedCommand feeder none 740 301 0 = ⟨752, 200⟩ := by decide +kernel

theorem test_bin_allowance :
    let s (level : Nat) : State :=
      { station bin .running with
        mfe := { Mfe.reset with level := level }
        peers := [peer 8 4 1 .feeder 301 0, peer 9 4 2 .feeder 280 0] }
    (s 550).aleResult.a = 1031 ∧ (s 550).aleResult.term = .downstream ∧ (s 800).aleResult.a = 281 ∧
      (s 800).aleResult.term = .space ∧ (s 950).aleResult.a = 0 := by decide +kernel

/-! ### The bus (spec/01) and the neighbours (spec/02, section 2.9) -/

/-- The check value of CRC-16 with polynomial 0x1021 and initial value 0xFFFF over the nine ASCII digits is
0x29B1 (the standard check value of that CRC; R2 names its polynomial, initial value and bit order). -/
theorem test_crc_check_value :
    crcOf [0x31#8, 0x32#8, 0x33#8, 0x34#8, 0x35#8, 0x36#8, 0x37#8, 0x38#8, 0x39#8] = 0x29B1#16 := by
  decide +kernel

theorem test_periods_and_backoffs :
    cone.period = 256 * 250 ∧ feeder.period = 250 * 250 ∧ bin.period = 262 * 250 ∧
      Image.backoff { cone with number := 3 } = 112 ∧ Image.backoff { cone with number := 7 } = 208 ∧
      Image.backoff { cone with number := 12 } = 328 := by decide +kernel

theorem test_neighbours_of_feeder_8 :
    let s :=
      { station feeder .running with
        peers := [peer 6 3 0 .bin 0 0, peer 9 4 2 .feeder 0 0, peer 11 5 1 .crusher 0 0,
          peer 12 5 2 .crusher 0 0] }
    s.downstream.map PeerEntry.number = [11] ∧ s.upstream.map PeerEntry.number = [6] ∧
      s.supplyBin.map PeerEntry.number = some 6 := by decide +kernel

/-- R28 lists no role: station 6 becoming a BIN at the same level is no change of U, its level then is. -/
theorem test_role_change_gives_no_notice :
    let e (role : Role) (level : Nat) : PeerEntry :=
      { peer 6 3 0 role 0 0 with level := some level }
    let s (role : Role) (level : Nat) : State :=
      { station feeder .running with peers := [e role level] }
    neighboursChanged (s .crusher 400) (s .bin 400) = false ∧
      neighboursChanged (s .bin 400) (s .bin 401) = true ∧
      neighboursChanged (s .crusher 400) (s .crusher 401) = false ∧
      neighboursChanged (s .bin 400) { s .bin 400 with peers := [] } = true := by decide +kernel

theorem test_stale_after_four_expiries :
    let p : PeerEntry := { peer 11 5 1 .crusher 0 0 with age := 3 }
    p.fresh 3 = true ∧ (agePeers [p]).map (fun q => q.fresh 3) = [false] ∧
      agePeers [{ p with age := 63 }] = [] := by decide +kernel

/-- The contents of a plain telegram of station 9, a feeder at position 4. -/
def telegram9 : StateTelegram :=
  { source := 9#8, runState := 3#3, role := 1#2, position := 4#4, branch := 1#2, terminal := false
    hold := 0#7, allowance := 280#16, throughput := 250#12, estimated := false, limiting := 3#8
    events := 0#20, tripCause := none, level := none, gap := none, feed := none, summary := none
    active := none, parked := none, echo := none, report := none }

theorem test_telegram_enters_table :
    (after (.stateTelegram false telegram9) (station cone .ready)).peers =
      [peer 9 4 1 .feeder 280 250] := by decide +kernel

theorem test_duplicate_trips :
    let t := after (.stateTelegram false { telegram9 with source := 11#8 }) (station cone .running)
    t.rsc.tripCause = some .duplicate ∧ t.lbi.inhibit = true ∧ t.lbi.tx = .idle := by decide +kernel

theorem test_attempt_lost_backs_off :
    let s := { station cone .running with lbi := { Lbi.reset with tx := .sending, attempts := 2 } }
    (after .attemptLost s).lbi.tx = .backoff ∧ (after .attemptLost s).lbi.attempts = 3 ∧
      (after .attemptLost { s with lbi := { s.lbi with attempts := 3 } }).evu.events.has
        .busContention = true := by decide +kernel

theorem test_period_begins_telegram_and_counts :
    let s := (station cone .ready).periodExpiryIn [.lbi, .ageing, .measure, .allowance, .runState]
    s.lbi.tx = .waitIdle ∧ s.lbi.silent = 1 ∧ s.lbi.periodTimer = .running 0 := by decide +kernel

/-! ### Orders (spec/09, section 9.4) -/

/-- The result in the echo. -/
def result (s : State) : Option OrderResult := s.echo.map Echo.result

theorem test_set_gap_clamps :
    let t := after (.setGap head 600#16) (withGap 250 (station cone .running))
    t.mve.gSet = 500 ∧ result t = some .clamped ∧
      t.mve.active.map Context.requester = some .orderGap ∧ t.pins.raise = true := by
  decide +kernel

theorem test_hold_from_other_station :
    result (after (.hold { head with source := 20#8 }) (station cone .running)) =
      some .notPermitted := by decide +kernel

theorem test_wrong_role :
    result (after (.setCap head 500#16) (station cone .running)) = some .refusedRole ∧
      result (after (.readCal head 2#16) (station feeder .running)) = some .refusedRole := by
  decide +kernel

theorem test_liner_changed_by_run_state :
    result (after (.linerChanged head) (station cone .running)) = some .refusedState ∧
      result (after (.linerChanged head) (station cone .ready)) = some .accepted ∧
      (after (.linerChanged head) (station cone .ready)).cwu.due = true := by decide +kernel

theorem test_clear_trip_waits_for_cord :
    let s := station cone .tripped
    result (after (.clearTrip head) { s with mfe := { s.mfe with pullcordIn := true } }) =
        some .refusedState ∧
      (after (.clearTrip head) s).rsc.runState = .ready := by decide +kernel

theorem test_start_line_spins_up :
    (after (.startLine head) (station cone .ready)).rsc.subPhase = some .spinUp ∧
      (after (.startLine head) (station cone .ready)).pins.run = true ∧
      result (after (.startLine head) (station cone .tripped)) = some .refusedState := by
  decide +kernel

theorem test_stop_line_stops :
    (after (.stopLine head) (station cone .running)).rsc.runState = .stopping ∧
      (after (.stopLine head) (station cone .starting)).rsc.runState = .ready := by decide +kernel

theorem test_hold_and_release :
    (after (.hold head) (station bin .running)).rsc.runState = .holding ∧
      (after (.release head) (station bin .holding)).rsc.runState = .running := by decide +kernel

theorem test_ack_removes_named_kinds :
    let s := { station cone .ready with evu := ⟨0b11#20⟩ }
    (after (.ackEvents head 0xF00001#24) s).evu.events = 0b10#20 := by decide +kernel

theorem test_unknown_kind :
    result (after (.unknownKind head 15#8 none) (station cone .ready)) = some .unknownKind := by
  decide +kernel

/-! ### Moves (spec/06 section 6.9, spec/07 section 7.7) -/

/-- The raw count that shows a gap at cone 11. -/
def rawOf (gap : Nat) : BitVec 12 := BitVec.ofNat 12 (812 + (gap * 256 + 299) / 300)

theorem test_tramp_step_is_clipped :
    let t := after .trampActiveEdge (withGap 256 (station cone .running))
    t.mve.active.map (fun c => c.work) = some (.gap 500 .opening) ∧
      t.evu.events.has .limit = true ∧ t.rsc.hold.tramp = true ∧ t.rsc.hold.move = true ∧
      t.cwu.attempts = 1 := by decide +kernel

theorem test_tramp_edge_outside_group_raises_only :
    let t := after .trampActiveEdge (station cone .ready)
    t.evu.events.has .tramp = true ∧ t.cwu.attempts = 0 ∧ t.mfe.trampIn = true ∧
      (after .trampInactiveEdge t).mfe.trampIn = false := by decide +kernel

theorem test_one_chain_two_senses :
    workGapBy cone 254 false (-20) = (234, false) ∧ workGapBy cone 234 true (-20) = (254, false) ∧
      senseGapBy (-20) = .closing := by decide +kernel

theorem test_update_mode_walks_to_the_limit :
    let r : MoveRecord := { rec .gapTo 205 .none 60 true 0 with step := -5, update := true }
    (r.advance cone).argument = 200 ∧ (r.advance cone).update = true ∧
      ((r.advance cone).advance cone).argument = 200 ∧
      ((r.advance cone).advance cone).update = false := by decide +kernel

/-- START's closing step of section 7.7, in DRIVE or VERIFY toward 234. -/
def closing (phase : Phase) : Context :=
  context .start 12 (rec .gapBy (-20) .reduce 30 false 13) (.gap 234 .closing) phase

theorem test_drive_ends_then_verifies :
    let t := after (.sampleEvent .gapPos (rawOf 236)) (moving (closing (.drive .lower)))
    t.mve.active.map (fun c => c.phase) = some (.verify 0) ∧
      (after (.sampleEvent .gapPos (rawOf 235)) t).mve.active.map (fun c => c.phase) =
        some (.verify 1) ∧
      (after (.sampleEvent .gapPos (rawOf 235)) (after (.sampleEvent .gapPos (rawOf 235)) t)).mve.active.map
        (fun c => (c.slot, c.work)) = some (13, .timed 5000000) := by decide +kernel

theorem test_record_timer_names_the_sense :
    let s := moving (closing (.drive .lower))
    let t := after .recordTimerExpiry { s with mve := { s.mve with recordTimer := .running 9 } }
    t.mve.parked.map (fun c => c.status) = some (.fault .timeoutClosing) ∧
      t.rsc.hold.moveFault = true ∧ t.evu.events.has .moveFault = true := by decide +kernel

theorem test_settle_timer_faults :
    let s := moving (closing .settle)
    (after .settleTimerExpiry { s with mve := { s.mve with settleTimer := .running 9 } }).mve.parked.map
      (fun c => c.status) = some (.fault .feedNotStopped) := by decide +kernel

theorem test_dwell_ends_chain :
    let c := context .start 13 (rec .dwell 20 .reduce 1 true 0) (.timed 0) .running
    (after .remainingTimeExpiry (moving c)).mve.active = none ∧
      (after .remainingTimeExpiry (moving c)).evu.events.has .chainNotify = true := by decide +kernel

/-- The jammed overload record of section 7.7, parked. -/
def jammed : State :=
  let c :=
    { context .overload 12 (rec .gapBy (-20) .reduce 30 false 13) (.gap 282 .closing)
        (.drive .lower) with
      mirror := true, status := .fault .timeoutClosing }
  let s := withGap 296 (station cone .holding)
  { s with
    mve := { s.mve with parked := some c, requests := { RequestSet.empty with calibrate := true } }
    rsc := { s.rsc with hold := { HoldSet.empty with moveFault := true } } }

theorem test_move_retry_reloads :
    (after (.moveRetry head) jammed).mve.active.map (fun c => c.work) = some (.gap 316 .closing) ∧
      (after (.moveRetry head) jammed).mve.parked = none := by decide +kernel

theorem test_move_discard_selects :
    (after (.moveDiscard head) jammed).mve.active.map Context.requester = some .calibrate ∧
      (after (.moveDiscard head) jammed).rsc.hold.moveFault = false := by decide +kernel

theorem test_calibrate_is_granted :
    (after (.calibrate head) (withGap 250 (station cone .running))).mve.active.map
      (fun c => (c.requester, c.slot, c.phase)) = some (.calibrate, 5, .drive .lower) ∧
    result (after (.calibrate head) (station cone .ready)) = some .refusedState := by
  decide +kernel

/-! ### Calibration and wear (spec/08, section 8.9) -/

/-- Cone 11 before a contact: a ring of one accepted record. -/
def beforeContact (r0 : Nat) (total : Int) (raw : Nat) : State :=
  let s := station cone .running
  { s with
    mfe := { s.mfe with raw := raw, gapValid := true, gap := 9 }
    cwu :=
      { s.cwu with
        r0 := r0, totalWear := total, calNumber := 27
        ring := [⟨27, 829, 10, 100, true⟩] } }

theorem test_contact_accepted_and_worn :
    let t := (beforeContact 829 249 836).evaluateContact
    t.cwu.r0 = 836 ∧ t.cwu.totalWear = 257 ∧ t.cwu.calNumber = 28 ∧
      t.evu.events.has .calibrated = true ∧ t.evu.events.has .linerWorn = true ∧ t.mfe.gap = 0 := by
  decide +kernel

theorem test_contact_rejected :
    let t := (beforeContact 836 257 910).evaluateContact
    t.cwu.r0 = 836 ∧ t.cwu.totalWear = 257 ∧ t.evu.events.has .calRejected = true ∧
      t.cwu.ring.map (fun r => (r.wear, r.accepted)) = [(10, true), (86, false)] ∧
      wearStep 843 300 690 = -179 := by decide +kernel

theorem test_read_cal_clamps :
    let s0 := station cone .ready
    let s := { s0 with cwu := { s0.cwu with ring := List.replicate 8 ⟨24, 829, 10, 100, true⟩ } }
    (after (.readCal head 9#16) s).cwu.selection = 7 ∧
      result (after (.readCal head 9#16) s) = some .clamped ∧
      result (after (.readCal head 2#16) s) = some .accepted := by decide +kernel

theorem test_second_makes_minute_and_hour :
    let s0 := station cone .running
    let s :=
      { s0 with
        cwu :=
          { s0.cwu with secondsTimer := .running 250000, seconds := 59, minutes := 59, sinceCal := 7 } }
    (after .secondsTimerExpiry s).cwu.hours = 1 ∧ (after .secondsTimerExpiry s).cwu.minutes = 0 ∧
      (after .secondsTimerExpiry s).cwu.sinceCal = 8 := by decide +kernel

/-! ### Run states (spec/05) and resets (spec/11) -/

theorem test_feedback_enters_group :
    let s := withGap 254 (station cone .starting)
    let u := { s with rsc := { s.rsc with subPhase := some .spinUp, spinTimer := .running 4 } }
    (after .runFbActiveEdge u).rsc.runState = .running ∧ (after .runFbActiveEdge u).rsc.spinTimer = .stopped ∧
      (after .spinUpExpiry u).rsc.tripCause = some .noFeedback := by decide +kernel

theorem test_feedback_lost_trips :
    (after .runFbInactiveEdge (station cone .running)).rsc.tripCause = some .motorStopped ∧
      (after .runFbInactiveEdge (station cone .ready)).rsc.tripCause = none := by decide +kernel

theorem test_pullcord_trips_and_keeps_first_cause :
    (after .pullcordActiveEdge (station cone .ready)).rsc.tripCause = some .pullcord ∧
      (after .pullcordActiveEdge (after .runFbInactiveEdge (station cone .running))).rsc.tripCause =
        some .motorStopped ∧
      (after .pullcordInactiveEdge (station cone .tripped)).rsc.runState = .tripped := by
  decide +kernel

theorem test_start_limit_and_interlock :
    let s := station cone .starting
    let u := station feeder .running
    (after .startLimitExpiry { s with rsc := { s.rsc with startTimer := .running 1 } }).evu.events.has
        .startTimeout = true ∧
      (after .interlockExpiry { u with rsc := { u.rsc with interlockTimer := .running 1 } }).evu.events.has
        .interlockStop = true := by decide +kernel

theorem test_drain_ends_without_event :
    let s := station cone .stopping
    let t := after .drainExpiry { s with rsc := { s.rsc with drainTimer := .running 1 } }
    t.rsc.runState = .ready ∧ t.evu.events = 0#20 ∧ t.pins.run = false := by decide +kernel

theorem test_restore_scale :
    let s0 := station cone .running
    let s :=
      { s0 with mfe := { s0.mfe with source := .estimate, q := 301, window := List.replicate 16 4 } }
    (after (.restoreScale head) s).mfe.q = 288 ∧ (after (.restoreScale head) s).mfe.source = .scale ∧
      result (after (.restoreScale head) (station bin .running)) = some .refusedRole := by
  decide +kernel

theorem test_set_cap :
    (after (.setCap head 1200#16) (station feeder .ready)).ale.cap = 1000 ∧
      result (after (.setCap head 1200#16) (station feeder .ready)) = some .clamped := by
  decide +kernel

theorem test_crystal_failure :
    let t := after .crystalFailure (station cone .holding)
    t.rsc.tripCause = some .clock ∧ t.cfg.clock = .internal ∧ t.evu.events.has .clockFail = true ∧
      t.pins.run = false ∧ t.lbi.tx = .idle := by decide +kernel

theorem test_pin_reset_keeps_wear :
    let s0 := station cone .running
    let s := { s0 with evu := ⟨0xFFFFF#20⟩, cwu := { s0.cwu with totalWear := 257, hours := 9 } }
    (after .pinReset s).cwu.totalWear = 257 ∧ (after .pinReset s).cwu.hours = 9 ∧
      (after .pinReset s).evu.events = 0x40000#20 ∧ (after .powerOnReset s).cwu.totalWear = 0 := by
  decide +kernel

theorem test_reset_asserted_drops_outputs :
    let t := after .resetAsserted (station cone .running)
    t.pins = Pins.reset ∧ (after .pullcordActiveEdge t).rsc.runState = .running ∧
      (after .pinReset t).cfg.held = false := by decide +kernel

/-- Of two resets that are asserted the release of one leaves the other, and no event is taken until its release
(R195); another release of the first does not end it. -/
theorem test_both_resets_asserted :
    let one := after .resetAsserted (station cone .running)
    let both := after .resetAsserted one
    let left := after .pinReset both
    one.cfg.asserted = .one ∧ both.cfg.asserted = .both ∧ left.cfg.asserted = .only .powerOn ∧
      left.pins = Pins.reset ∧ after (.imageLoadEnd []) left = left ∧
      (after .pinReset left).cfg.held = true ∧ (after .powerOnReset left).cfg.held = false ∧
      (after .powerOnReset (after .powerOnReset both)).cfg.held = true ∧
      (after .pinReset (after .powerOnReset both)).cfg.held = false := by decide +kernel

/-- A watch on the internal clock goes on through the release of the second reset, and ends with a new hold (R202). -/
theorem test_watch_through_both_releases :
    let s := after .crystalFailure (station cone .running)
    let t := after .pinReset (after .resetAsserted (after .resetAsserted s))
    t.cfg.restartWatch = true ∧ (after .powerOnReset t).cfg.restartWatch = true ∧
      (after .pinReset (after .resetAsserted (after .powerOnReset t))).cfg.restartWatch = false := by
  decide +kernel

theorem test_receiver_arms_and_collects :
    let t := after .idleGap (station cone .ready)
    t.lbi.rx = .armed ∧ (after (.receivedByte 0xC5#8 false) t).lbi.rx = .collect ∧
      (after (.receivedByte 0xC4#8 false) t).lbi.rx = .hunt ∧
      (after (.receivedByte 9#8 false) (after (.receivedByte 0xC5#8 false) t)).lbi.rx = .hunt := by
  decide +kernel

theorem test_discard_hunts :
    let s := { station cone .ready with lbi := { Lbi.reset with rx := .collect, rxBytes := [0xC5#8] } }
    (after .invalidTelegramDiscard s).lbi.rx = .hunt ∧ (after .invalidTelegramDiscard s).lbi.silent = 0 := by
  decide +kernel

theorem test_attempt_runs :
    let s := { station cone .ready with lbi := { Lbi.reset with tx := .waitIdle } }
    let t := after .attemptStart s
    t.lbi.tx = .sending ∧ t.pins.txEnable = true ∧ (after .attemptSucceeds t).lbi.tx = .idle ∧
      (after .backoffEnd { s with lbi := { s.lbi with tx := .backoff, attempts := 2 } }).lbi.attempts = 2 := by
  decide +kernel

/-! ### Witnesses: states that meet the hypotheses of the statements, clause by clause -/

theorem witness_StepRunsFrontCommand :
    State.pending { State.reset with pending := [.scalePulse, .idleGap] } = .scalePulse :: [.idleGap] :=
  rfl

theorem witness_EmptyQueuePassesOneBitTime :
    let s := station cone .running
    s.pending = [] ∧ s.cfg.held = false ∧ s.rsc.runState ≠ .offline ∧ State.reset.pending = [] ∧
      State.reset.rsc.runState = .offline ∧ (after .resetAsserted s).cfg.held = true ∧
      (Timer.tick (.running 63999)).reached cone.period = true := by decide +kernel

/-- The idle gap is queued in the bit time that completes it and at no other, if no start bit has been seen in
it (R1); a start bit starts the measurement again. -/
theorem test_idle_gap_is_queued :
    let s (idle : Nat) : State :=
      { station cone .ready with
        lbi := { Lbi.reset with idleTime := idle }, mfe := Mfe.reset, cwu := Cwu.reset }
    (s 38).tick.pending = [] ∧ (s 40).tick.pending = [] ∧ (s 38).tick.draws = (s 38).draws ∧
      (s 39).tick.draws = (s 39).draws + 1 ∧
      (Config.startBitSeen 0 = false →
        (s 39).tick.pending = [.idleGap] ∧ (s 39).tick.lbi.idleTime = 40) ∧
      (Config.startBitSeen 0 = true →
        (s 39).tick.pending = [] ∧ (s 39).tick.lbi.idleTime = 0) := by
  intro s
  have h : (s 39).tick =
      if Config.startBitSeen 0 then (s 39).advance.drawn.startBit else
        (s 39).advance.drawn.queueDue [.idleGap] := by
    rfl
  refine ⟨by decide +kernel, by decide +kernel, by decide +kernel, ?_⟩
  rw [h]
  cases Config.startBitSeen 0 <;> decide +kernel

theorem witness_HeldPartTakesNothing :
    Instr.scalePulse.isReset = false ∧
      (after .resetAsserted (station cone .running)).cfg.held = true := by decide +kernel

/-- The settle timer's expiry is none of the commands that the clauses leave out. -/
theorem witness_CommandsKeepOtherBlocks :
    let i := Instr.settleTimerExpiry
    i.isReset = false ∧ i ≠ .crystalFailure ∧ i ≠ .periodExpiry ∧ i ≠ .idleGap ∧
      i ≠ .invalidTelegramDiscard ∧ i ≠ .scalePulse ∧ i ≠ .trampActiveEdge ∧
      i ≠ .trampInactiveEdge ∧ i ≠ .pullcordActiveEdge ∧ i ≠ .pullcordInactiveEdge ∧
      i ≠ .runFbActiveEdge ∧ i ≠ .runFbInactiveEdge ∧ orderParts i = none ∧
      (∀ bytes, i ≠ .imageLoadEnd bytes) ∧ (∀ b f, i ≠ .receivedByte b f) ∧
      (∀ own x, i ≠ .stateTelegram own x) ∧ (∀ c n, i ≠ .sampleEvent c n) ∧
      (∀ h kinds, i ≠ .ackEvents h kinds) ∧ (∀ h k a, i ≠ .unknownKind h k a) ∧
      (∀ h, i ≠ .clearTrip h) ∧ (station cone .tripped).rsc.runState = .tripped ∧
      EventSet.has 1#20 .tramp = true := by
  simp [Instr.isReset, orderParts, station, EventSet.has, EventKind.bit]

theorem witness_ResetValues :
    exec .powerOnReset (station cone .running) = .next State.reset ∧
      exec .pinReset (station cone .running) = .next (station cone .running).pinned := ⟨rfl, rfl⟩

/-- A two-byte field. -/
def field (n : Nat) : List Byte := [BitVec.ofNat 8 (n / 256), BitVec.ofNat 8 n]

/-- The image of cone 11 (spec/12, section 12.4), its last word making the sum of all words 0. -/
def imageBytes : List Byte :=
  field 3 ++ field 346 ++ [11#8, 2#8, 5#8, 1#8, 1#8] ++ field 350 ++ [28#8, 29#8] ++
    ([250, 3, 300, 812, 5, 400, 150, 40, 1100, 1000, 50, 500, 900, 700, 150, 700, 120, 40, 400, 500, 600,
      200, 500, 250, 3, 20, 40, 250, 120, 10, 10, 60, 60, 480, 60, 0].map field).flatten ++
    [0#8, 0#8, 1#8, 0#8, 0#8, 8#8] ++
    (List.replicate 31 [0#8, 0x80#8, 0#8, 250#8, 0#8, 0#8, 0#8, 60#8]).flatten ++
    [20#8, 0x8C#8, 5#8, 12#8, 5#8] ++ field 43338

/-- The image is read, and its fields stand where the layout puts them. -/
theorem test_image_is_read :
    (readImage imageBytes).map
      (fun r => (r.1.number, r.1.headOverload, r.1.gInit, r.1.tripMask.has .scaleLost, r.2.length)) =
        some (11, ⟨12, true⟩, 250, true, 31) := by decide +kernel

/-- A feed condition outside its table makes the image invalid, whatever its sum (R203). -/
theorem test_image_refuses_feed_code_3 :
    let bytes := (imageBytes.take 344).set 84 3#8 ++ field 42570
    imageSumOk bytes = true ∧ readImage bytes = none ∧ Feed.ofCode 3 = Option.none ∧
      imageRecord [] 1 = none := by decide +kernel

/-- A reset on the internal clock that finds no crystal comes up TRIPPED (R202); the mask of the image holds TRAMP
only, and with R202 and R188 apart ATTN is a free value. Without that reset, and where the crystal fails a bit time
after it, the mask decides (R188, R201). -/
theorem test_attn_after_reset_without_crystal :
    let first := after .crystalFailure State.reset
    let again := after .crystalFailure (after .pinReset first)
    let later := after .crystalFailure (after .pinReset first).tick
    let t := after (.imageLoadEnd imageBytes) again
    t.rsc.tripCause = some .clock ∧ t.cfg.crystalMissed = true ∧
      (after (.imageLoadEnd imageBytes) first).rsc.tripCause = some .clock ∧
      (after (.imageLoadEnd imageBytes) first).pins.attn = false ∧
      (after (.imageLoadEnd imageBytes) later).rsc.tripCause = some .clock ∧
      (after (.imageLoadEnd imageBytes) later).pins.attn = false ∧
      (after (.imageLoadEnd imageBytes) (after .pinReset first)).pins.attn = false := by decide +kernel

theorem witness_AcceptedImageIsChecked : ∃ i records, readImage imageBytes = some (i, records) := by
  have h := test_image_is_read
  cases hr : readImage imageBytes with
  | none => rw [hr] at h; exact absurd h (by simp)
  | some r => exact ⟨r.1, r.2, rfl⟩

theorem witness_ImageLoadEnds :
    (∃ i records, readImage imageBytes = some (i, records)) ∧ readImage [] = none ∧
      State.reset.cfg.held = false ∧ State.reset.cfg.validity = .loading ∧
      State.reset.rsc = Rsc.reset ∧ (station cone .ready).cfg.validity ≠ .loading ∧
      State.reset.cfg.clock = .crystal ∧
      (after .crystalFailure State.reset).cfg.clock = .internal ∧
      (after .crystalFailure State.reset).rsc = Rsc.reset ∧
      (after .crystalFailure State.reset).cfg.validity = .loading ∧
      (after .crystalFailure (after .pinReset (after .crystalFailure State.reset))).cfg.crystalMissed = true ∧
      State.reset.lbi.tx = .idle ∧ State.reset.lbi.inhibit = false ∧
      State.reset.cfg.lastReset = .powerOn ∧ State.reset.pinned.cfg.lastReset = .pin :=
  ⟨witness_AcceptedImageIsChecked, by decide +kernel⟩

theorem witness_CrystalFailureStopsBus :
    (station cone .running).cfg.held = false ∧ (station cone .running).cfg.clock = .crystal ∧
      (station cone .running).rsc.runState ≠ .offline ∧
      (after .pinReset (after .crystalFailure (station cone .running))).cfg.restartWatch = true ∧
      (station cone .tripped).rsc.runState = .tripped ∧ State.reset.rsc.runState = .offline ∧
      State.reset.cfg.clock = .crystal ∧
      (after .crystalFailure (station cone .running)).cfg.clock = .internal := by decide +kernel

/-- Cone 11 holding, with START's step stacked under a tramp chain and a record parked. -/
def busy : State :=
  let s := withGap 254 (station cone .holding)
  let parked := { closing .settle with requester := .overload, status := .fault .loop, executed := 64 }
  { s with
    rsc := { s.rsc with hold := ⟨true, false, false, true, true, false, false⟩ }
    cwu := { s.cwu with attempts := 1 }
    mve :=
      { s.mve with
        active := some (context .tramp 21 (rec .dwell 5 .stop 1 false 22) (.timed 9) .running)
        stack := [{ closing (.verify 0) with status := .suspended }]
        parked := some parked }
    peers := [peer 8 4 1 .feeder 0 301, peer 9 4 2 .feeder 0 0]
    pending := [.trampInactiveEdge] }

/-- Busy, with the outputs driven. -/
def driven : State := { busy.drive with pending := [.scalePulse] }

theorem witness_CoherenceKept : busy.coherent ∧ ∃ t, step busy = .next t := by
  refine ⟨?_, _, rfl⟩
  unfold State.coherent State.loadCoherent Rsc.coherent State.idleFeed State.movesInGroup
    State.causesFollow State.restartCoherent
  decide +kernel

/-- A station that came up on the internal clock after a reset on it. -/
def restarted : State :=
  let s := station cone .tripped
  { s with
    cfg := { s.cfg with clock := .internal, crystalMissed := true }
    rsc := { s.rsc with tripCause := some .clock } }

theorem witness_CoherenceKept_restarted :
    restarted.coherent ∧ restarted.cfg.validity = .valid ∧ restarted.cfg.crystalMissed = true ∧
      restarted.drive.pinsOk ∧ restarted.cfg.attnUnmasked = Config.attnAfterRestart := by
  refine ⟨?_, rfl, rfl, rfl, rfl⟩
  unfold State.coherent State.loadCoherent Rsc.coherent State.idleFeed State.movesInGroup
    State.causesFollow State.restartCoherent
  decide +kernel

theorem witness_ArbiterOrderKept : busy.mve.ordered ∧ ∃ t, step busy = .next t := by
  refine ⟨?_, _, rfl⟩
  unfold Mve.ordered
  decide +kernel

theorem witness_ContextCountsKept :
    busy.mve.statusOk ∧ busy.mve.countsOk ∧ ∃ t, step busy = .next t := by
  refine ⟨?_, ?_, _, rfl⟩
  · simp [Mve.statusOk, busy, context, newContext]
  · simp [Mve.countsOk, Context.countsOk, busy, context, newContext, closing]

theorem witness_PeerTableKept : busy.peersOk ∧ ∃ t, step busy = .next t := by
  refine ⟨?_, _, rfl⟩
  unfold State.peersOk State.loadCoherent
  decide +kernel

/-- The cone in COLLECT with these bytes. -/
def collecting (bytes : List Byte) : State :=
  { station cone .ready with lbi := { Lbi.reset with rx := .collect, rxBytes := bytes } }

theorem witness_BusSidesKept : busy.sendingOk ∧ busy.receivingOk ∧ ∃ t, step busy = .next t := by
  refine ⟨?_, ?_, _, rfl⟩
  · unfold State.sendingOk; decide +kernel
  · unfold State.receivingOk; decide +kernel

/-- A receiving side about to store its length byte, and one about to complete its telegram. -/
theorem witness_BusSidesKept_collecting :
    (collecting [0xC5#8]).receivingOk ∧ (collecting (0xC5#8 :: List.replicate 8 10#8)).receivingOk := by
  unfold State.receivingOk
  decide +kernel

theorem witness_StoresKept : busy.storesOk ∧ ∃ t, step busy = .next t := by
  refine ⟨?_, _, rfl⟩
  unfold State.storesOk
  decide +kernel

theorem witness_GapTargetKept :
    ∃ i, i.number = 11 ∧ State.gapOk { station i .ready with pending := [.scalePulse] } ∧
      ∃ t, step { station i .ready with pending := [.scalePulse] } = .next t := by
  refine ⟨{ cone with startLimit := 120 }, rfl, ?_, _, rfl⟩
  unfold State.gapOk State.loadCoherent
  decide +kernel

theorem witness_FeedCommandKept : busy.feedOk ∧ ∃ t, step busy = .next t := by
  refine ⟨?_, _, rfl⟩
  unfold State.feedOk State.loadCoherent State.idleFeed
  decide +kernel

theorem witness_OutputsKept : driven.pinsOk ∧ ∃ t, step driven = .next t := ⟨rfl, _, rfl⟩

/-- A part that is held, and one in OFFLINE, are reached by a step. -/
theorem witness_OutputsKept_held :
    (after .resetAsserted driven).cfg.held = true ∧ (after .pinReset driven).rsc.runState = .offline := by
  decide +kernel

/-- A telegram with every optional field is 47 bytes long and is read back. -/
theorem witness_TelegramRoundTrip :
    let t : StateTelegram :=
      { telegram9 with
        tripCause := some 1#8, level := some 500#16, gap := some ⟨254#12, true, 250#16⟩
        feed := some 300#16, summary := some ⟨1#3, 2#3, 0#3, 2#2, 3#6⟩, active := some ⟨5#8, 1#3, 2#3⟩
        parked := some ⟨6#8, 2#4, 3#3, true⟩, echo := some ⟨7#8, 1#8, 0#8⟩
        report := some ⟨0#3, true, 27#16, 829#16, 5#16, 100#16⟩ }
    decodeTelegram t.encode = some (.state t) ∧ t.encode.length = 47 ∧
      decodeTelegram (OrderTelegram.encode ⟨head, 6#8, some 250#24⟩) =
        some (.order ⟨head, 6#8, some 250#24⟩) := by decide +kernel

theorem witness_TelegramChecks : decodeTelegram telegram9.encode = some (.state telegram9) := by
  decide +kernel

theorem witness_ContentsComeFromOwners :
    let s := { busy with cwu := { busy.cwu with ring := [⟨27, 829, -10, 100, true⟩] } }
    s.compose.summary.isSome = true ∧ s.compose.report.isSome = true ∧
      s.cwu.ring[s.cwu.ring.length - 1 - s.cwu.selection]?.isSome = true ∧
      s.mve.stack.length = 1 ∧ s.compose.summary.map MoveSummary.depth = some 1#2 := by
  decide +kernel

/-- An order as the bus carries it. -/
def orderBytes : List Byte := OrderTelegram.encode ⟨head, 3#8, none⟩

theorem witness_CompletedBytesActAsTelegram :
    (collecting orderBytes.dropLast).cfg.held = false ∧
      (collecting orderBytes.dropLast).receives = true ∧
      orderBytes.dropLast ++ [orderBytes.getLast!] = orderBytes ∧
      orderBytes.length = lengthByte orderBytes ∧ 3 ≤ orderBytes.length ∧
      decodeTelegram orderBytes = some (.order ⟨head, 3#8, none⟩) ∧
      decodeTelegram (orderBytes.dropLast ++ [0#8]) = none ∧
      telegram9.encode.length = lengthByte telegram9.encode ∧
      decodeTelegram telegram9.encode = some (.state telegram9) := by decide +kernel

theorem witness_ReceiverCollects :
    let c := (after .crystalFailure (station cone .ready))
    State.reset.rsc.runState = .offline ∧ c.receives = false ∧ c.rsc.runState ≠ .offline ∧
      (station cone .ready).lbi.rx = .hunt ∧ (station cone .ready).receives = true ∧
      (after .idleGap (station cone .ready)).lbi.rx = .armed ∧
      (collecting [0xC5#8]).lbi.rxBytes.length = 1 ∧ (collecting [0xC5#8, 10#8]).receives = true ∧
      2 ≤ (collecting [0xC5#8, 10#8]).lbi.rxBytes.length ∧
      (collecting [0xC5#8, 10#8]).lbi.rxBytes.length + 1 ≠
        lengthByte (collecting [0xC5#8, 10#8]).lbi.rxBytes ∧
      (9#8).toNat < 10 ∧ 10 ≤ (10#8).toNat ∧ (48#8).toNat ≤ 48 ∧ 48 < (49#8).toNat := by
  decide +kernel

/-- The cone with its sending side in a state. -/
def sending (tx : TxState) (attempts : Nat) (early : Bool) : State :=
  { station cone .running with
    lbi := { Lbi.reset with tx := tx, attempts := attempts, earlyPending := early } }

theorem witness_EarlyTelegramBegun :
    (sending .backoff 2 false).sends = true ∧ (sending .backoff 2 false).lbi.tx = .backoff ∧
      (sending .idle 0 false).lbi.tx = .idle ∧ (sending .waitIdle 0 false).lbi.tx = .waitIdle ∧
      State.reset.sends = false := by decide +kernel

theorem witness_AttemptTakesContents :
    (sending .waitIdle 0 false).cfg.held = false ∧ (sending .waitIdle 0 false).lbi.tx = .waitIdle ∧
      (sending .backoff 3 false).lbi.tx = .backoff := by decide +kernel

theorem witness_AttemptOutcomes :
    (sending .sending 3 true).cfg.held = false ∧ (sending .sending 3 true).lbi.tx = .sending ∧
      3 ≤ (sending .sending 3 true).lbi.attempts ∧ (sending .sending 2 false).lbi.attempts < 3 ∧
      (sending .idle 0 false).lbi.tx ≠ .sending := by decide +kernel

theorem witness_OwnAndDuplicateTelegrams :
    let x := { telegram9 with source := 11#8 }
    (station cone .running).cfg.held = false ∧ (station cone .running).receives = true ∧
      x.source.toNat = (station cone .running).cfg.image.number ∧
      (station cone .tripped).receives = true := by decide +kernel

/-- A full table of these ages, without station 9. -/
def fullTable (age : Nat) : List PeerEntry :=
  [1, 2, 3, 4, 5, 6, 7, 8, 12, 13, 14, 15, 16, 17, 18, 19].map fun n =>
    { peer n 4 1 .feeder 0 0 with age := if n = 5 then age else 0 }

theorem witness_ForeignTelegramWritesPeer :
    let s := station cone .running
    s.cfg.held = false ∧ s.receives = true ∧ telegram9.source.toNat ≠ s.cfg.image.number ∧
      telegram9.role ≠ 0#2 ∧ telegram9.runState ≠ 7#3 ∧ telegram9.limiting.toNat ≤ 9 ∧
      1 ≤ telegram9.position.toNat ∧ telegram9.tripCause = none ∧
      StateTelegram.listed telegram9 = true ∧
      StateTelegram.entry telegram9 = some (peer 9 4 1 .feeder 280 250) ∧
      neighboursChanged s { s with peers := [peer 9 4 1 .feeder 280 250] } = true ∧
      neighboursChanged s { s with peers := [peer 9 3 1 .feeder 280 250] } = false ∧
      writePeer 3 (peer 9 4 1 .feeder 280 250) (fullTable 3) = none ∧
      writePeer 3 (peer 9 4 1 .feeder 280 250) [] = some [peer 9 4 1 .feeder 280 250] ∧
      StateTelegram.listed { telegram9 with role := 0#2 } = false := by decide +kernel

theorem witness_PeerTableWritten :
    (fullTable 4).Pairwise (fun a b => a.number < b.number) ∧ (fullTable 4).length = 16 ∧
      (∀ p ∈ fullTable 4, p.number ≠ 9) ∧ (∀ p ∈ fullTable 3, p.age ≤ 3) ∧
      (∃ d ∈ fullTable 4, 3 < d.age ∧ (∀ p ∈ fullTable 4, p.age ≤ d.age) ∧
        ∀ p ∈ fullTable 4, p.age = d.age → d.number ≤ p.number) ∧
      (∃ p ∈ fullTable 4, p.number = 8) ∧ (∀ p ∈ fullTable 63, p.age < 64) ∧
      (State.peers { station feeder .running with peers := fullTable 4 }).Pairwise
        (fun a b => a.number < b.number) := by decide +kernel

theorem witness_TripTaken :
    State.reset.rsc.runState = .offline ∧ (station cone .tripped).rsc.runState = .tripped ∧
      (station cone .running).rsc.runState ≠ .offline ∧
      (station cone .running).rsc.runState ≠ .tripped ∧
      (station cone .running).rsc.runState.isTurning = true ∧
      (station cone .stopping).rsc.runState.isTurning = false ∧
      (station cone .stopping).rsc.runState.inGroup = true ∧ cone.role = .crusher := by
  decide +kernel

theorem witness_HoldSetChanged :
    (station cone .running).rsc.coherent ∧ (station cone .holding).rsc.coherent ∧
      (station cone .stopping).rsc.coherent ∧ (station cone .ready).rsc.coherent ∧
      (station cone .holding).rsc.runState.inGroup = true ∧
      (station cone .holding).rsc.hold ≠ HoldSet.empty ∧
      (station cone .running).rsc.hold = HoldSet.empty ∧
      (station cone .ready).rsc.runState.inGroup = false := by
  unfold Rsc.coherent
  decide +kernel

theorem witness_LineEvaluated :
    (station cone .running).rsc.runState.inGroup = true ∧
      (station cone .running).rsc.runState.isTurning = true ∧
      (station cone .stopping).rsc.runState = .stopping ∧
      (station cone .starting).rsc.runState.inGroup = false ∧
      (station cone .starting).rsc.runState = .starting ∧
      (station cone .starting).rsc.subPhase = some .waitDownstream ∧
      (station cone .starting).proceeds = true ∧ (station feeder .starting).proceeds = false ∧
      (station feeder .running).interlockCondition = true ∧
      (station cone .running).interlockCondition = false ∧
      (station cone .stopping).drainCondition = true ∧
      State.drainCondition { station cone .stopping with mfe := { Mfe.reset with q := 21 } } = false := by
  decide +kernel

/-- A running interlock timer keeps its start (R96). -/
theorem test_interlock_timer_keeps_its_start :
    let s := station feeder .running
    (State.evaluateLine { s with rsc := { s.rsc with interlockTimer := .running 9 } }).rsc.interlockTimer =
        .running 9 ∧
      s.evaluateLine.rsc.interlockTimer = .running 0 := by decide +kernel

theorem witness_PeriodExpiryTakesEveryPart :
    (station cone .running).cfg.held = false ∧
      (station cone .running).lbi.periodTimer ≠ .stopped ∧
      State.reset.lbi.periodTimer = .stopped := by decide +kernel

theorem witness_PeriodCountsAndAges :
    let s := { station feeder .running with peers := [{ peer 11 5 1 .crusher 300 0 with age := 3 }] }
    let c := { cone with tripMask := EventSet.single .busSilent }
    (station cone .running).lbi.silent ≠ 7 ∧
      (State.lbi { s with lbi := { s.lbi with silent := 7 } }).silent = 7 ∧
      cone.tripMask.has .busSilent = false ∧ c.tripMask.has .busSilent = true ∧
      (station c .running).rsc.runState.inGroup = true ∧
      neighboursChanged s { s with peers := agePeers s.peers } = true ∧
      neighboursChanged (station cone .running)
        { station cone .running with peers := agePeers [] } = false := by decide +kernel

theorem witness_PeriodMeasures :
    let s := station cone .running
    let c := { cone with tripMask := EventSet.single .scaleLost }
    (station bin .ready).mfe.source = .scale ∧ s.mfe.watchdog < 16 ∧
      (State.mfe { s with mfe := { s.mfe with watchdog := 15, load := 50 } }).watchdog = 15 ∧
      s.rsc.runState = .running ∧ cone.role = .crusher ∧ cone.pIdle ≤ 50 ∧ 16 ≤ 15 + 1 ∧
      c.tripMask.has .scaleLost = true ∧ cone.tripMask.has .scaleLost = false ∧
      (station c .running).rsc.runState.inGroup = true ∧ feeder.role = .feeder ∧ bin.role = .bin := by
  decide +kernel

theorem witness_AllowanceActsByRunState :
    (station cone .holding).rsc.runState = .holding ∧
      (moving (context .tramp 21 (rec .dwell 5 .stop 1 false 22) (.timed 9) .running)).mve.feed = .stop ∧
      (station cone .ready).rsc.runState ≠ .holding ∧ (station cone .ready).rsc.runState ≠ .running ∧
      (station cone .running).rsc.runState = .running ∧ (station cone .running).mve.feed ≠ .stop ∧
      (station feeder .running).cfg.image.role = .feeder ∧ (station bin .running).cfg.image.role = .bin := by
  decide +kernel

theorem witness_reduced_allowances :
    (moving (closing .settle)).mve.feed = .reduce ∧ (conePeriod 620 true 250).mve.feed = .none ∧
      (conePeriod 620 true 250).cfg.image.rRed ≤ 1000 ∧ cone.pIdle ≤ 50 ∧ 49 < cone.pIdle := by
  decide +kernel

theorem witness_CrusherAllowance :
    (moving (closing .settle)).mve.feed ≠ .stop ∧ (moving (closing .settle)).cfg.image.rRed ≤ 1000 := by
  decide +kernel

theorem witness_FeederAllowance :
    (station feeder .running).mve.feed ≠ .stop ∧ (station feeder .running).cfg.image.rRed ≤ 1000 ∧
      (station feeder .running).mve.active = none ∧
      (moving (context .start 1 (rec .rateFor 300 .none 10 false 2) (.timed 9) .running)).mve.rateCap =
        some 300 := by
  decide +kernel

theorem witness_FeedCommandSteps :
    feeder.uMin ≤ 500 ∧ (0 < 301) ∧ (feedCommand feeder none 752 301 150).u = 752 ∧
      (feedCommand feeder (some 752) 752 301 150).u = 752 ∧
      (feedCommand feeder (some 300) 752 301 150).u = 300 ∧
      (feedCommand feeder (some 149) 752 301 150).u = 0 := by decide +kernel

theorem witness_BinAllowance :
    (station bin .running).mve.feed = .none ∧
      ({ station bin .running with
        mve :=
          { (station bin .running).mve with
            active :=
              some (context .start 13 (rec .dwell 20 .reduce 1 true 0) (.timed 9) .running) } } :
        State).mve.feed = .reduce := by decide +kernel

/-- The table of the cone with one more record at a slot. -/
def withRecord (s : State) (slot : Nat) (r : MoveRecord) : State :=
  { s with mve := { s.mve with table := s.mve.table.set slot r } }

theorem witness_RecordLoads :
    let s := withGap 254 (station cone .running)
    s.cfg.image.gMin < s.cfg.image.gMax ∧ (s.mve.record 12).kind = .gapBy ∧
      (s.mve.record 12).next ≠ 0 ∧ s.cfg.image.role = .crusher ∧ s.mfe.gapValid = true ∧
      (station cone .running).mfe.gapValid = false ∧ (s.mve.record 5).kind = .touch ∧
      (s.mve.record 6).kind = .gapTo ∧ (s.mve.record 6).stop = true ∧
      (s.mve.record 13).kind = .dwell ∧ (s.mve.record 13).stop = true ∧
      ((withRecord (station feeder .running) 1 (rec .rateFor 300 .none 10 false 2)).mve.record 1).kind =
        .rateFor ∧
      (s.mve.record 1).stop = false ∧ (s.mve.record 1).next = 0 := by decide +kernel

theorem witness_PhasesEntered :
    let s := withGap 254 (station cone .running)
    let stacked := moving (closing .settle)
    s.mfe.gapValid = true ∧ (station cone .running).mfe.gapValid = false ∧
      (closing .settle).feed = .reduce ∧ (closing .settle).work = .gap 234 .closing ∧
      234 + s.cfg.image.db < s.mfe.gap ∧ 254 + 3 < 258 ∧ 257 ≤ s.mfe.gap + s.cfg.image.db ∧
      s.mfe.gap ≤ 251 + s.cfg.image.db ∧
      (context .start 6 (rec .gapTo 250 .none 60 true 0) (.gap 250 .closing) .load).feed = .none ∧
      (context .calibrate 5 (rec .touch 0 .none 90 false 6) .touch .settle).feed = .stop ∧
      (context .calibrate 5 (rec .touch 0 .none 90 false 6) .touch .settle).work = .touch ∧
      s.upstream = [] ∧ s.mfe.load ≤ s.cfg.image.pIdle ∧
      stacked.mve.active = some (closing .settle) ∧ stacked.mfe.q ≤ stacked.ale.a ∧
      s.mve.active = none := by decide +kernel

/-- The cone holding with a stack and pending requests and no chain active. -/
def waiting (requests : RequestSet) (parked : Option Context) : State :=
  let s := withGap 254 (station cone .holding)
  { s with
    mve :=
      { s.mve with
        stack := [{ closing (.verify 0) with requester := .orderGap, status := .suspended }]
        requests := requests
        parked := parked } }

theorem witness_ArbiterSelects :
    let both := { RequestSet.empty with orderGap := true, calibrate := true }
    let low := { RequestSet.empty with start := true, schedule := true }
    let tramp := { RequestSet.empty with tramp := true }
    let s := waiting both none
    s.rsc.runState.inGroup = true ∧ s.mve.active = none ∧ s.mve.parked = none ∧
      s.mve.bestRequest = some .orderGap ∧ Requester.priority .orderGap = 1 ∧
      (s.mve.stack.getLast?.all fun c => decide (c.requester.priority < 1)) = false ∧
      (s.mve.stack.getLast?.map fun c => c.requester.priority) = some 1 ∧
      (waiting tramp none).mve.bestRequest = some .tramp ∧
      ((waiting tramp none).mve.stack.getLast?.all fun c => decide (c.requester.priority < 3)) = true ∧
      (waiting low none).mve.bestRequest = some .start ∧
      (waiting tramp (some (closing .load))).mve.parked.isSome = true ∧
      (waiting tramp (some (closing .load))).mve.requests.tramp = true ∧
      (waiting both (some (closing .load))).mve.requests.tramp = false ∧
      (station cone .running).mve.bestRequest = none ∧ (station cone .running).mve.stack = [] ∧
      (station cone .ready).rsc.runState.inGroup = false ∧ busy.mve.active.isSome = true ∧
      (moving (closing .settle)).mve.active = some (closing .settle) ∧
      Requester.priority .schedule ≤ (closing .settle).requester.priority ∧
      (closing .settle).requester.priority < Requester.priority .orderGap := by decide +kernel

theorem witness_ContextResumes :
    (closing (.verify 1)).record.kind = .gapBy ∧ (closing (.drive .lower)).phase = .drive .lower ∧
      (closing .settle).phase = .settle ∧
      (context .calibrate 5 (rec .touch 0 .none 90 false 6) .touch .settle).record.kind = .touch ∧
      (context .start 13 (rec .dwell 20 .reduce 1 true 0) (.timed 9) .running).record.kind = .dwell := by
  decide +kernel

theorem witness_FaultParksOrTrips :
    (station cone .running).mve.active = none ∧
      (moving (closing .settle)).mve.active = some (closing .settle) ∧
      (closing .settle).requester ≠ .tramp ∧ (moving (closing .settle)).mve.requests.tramp = false ∧
      (moving (closing .settle)).rsc.runState.inGroup = true ∧
      busy.mve.active.map Context.requester = some .tramp := by decide +kernel

theorem witness_RecordCompletes :
    cone.gMin < cone.gMax ∧ (closing .done).record.stop = false ∧ (closing .done).executed + 1 < 64 ∧
      ({ closing .done with executed := 62 } : Context).executed + 1 < 64 ∧
      64 ≤ ({ closing .done with executed := 63 } : Context).executed + 1 ∧
      busy.cwu.attempts ≠ 0 ∧ busy.cwu.attempts < 3 ∧ busy.mfe.trampIn = false ∧
      busy.mve.requests.tramp = false ∧
      (after .trampActiveEdge busy).mfe.trampIn = true ∧
      (after .trampInactiveEdge (after .trampActiveEdge busy)).mve.requests.tramp = true ∧
      (rec .gapTo 250 .none 60 true 0).stop = true := by decide +kernel

theorem witness_ContactEvaluated :
    (beforeContact 829 249 836).cwu.ring.length ≤ 8 ∧ wearStep 829 300 836 = 8 ∧
      wearStep 836 300 910 = 86 ∧ (40 : Int) ≤ cone.wJump ∧ ¬ (41 : Int) ≤ cone.wJump := by decide +kernel

theorem witness_LoadAndLevelSamples :
    let s := station cone .running
    let m := { s.mfe with overloadCount := 3, levelCount := 1 }
    s.cfg.held = false ∧ s.rsc.runState ≠ .offline ∧ s.cfg.image.role = .crusher ∧
      State.reset.rsc.runState = .offline ∧ feeder.role = .feeder ∧ cone.role ≠ .feeder ∧
      4 ≤ m.overloadCount + 1 ∧ m.overload = false ∧ cone.pOvl ≤ min 1500 (2934 * 3 / 8) ∧
      ¬ cone.pOvl ≤ min 1500 (2933 * 3 / 8) ∧ min 1500 (2666 * 3 / 8) < cone.pLim ∧
      2 ≤ m.levelCount + 1 ∧ cone.lHigh ≤ min 1000 (3600 / 4) ∧
      min 1000 (3399 / 4) + 50 < cone.lHigh ∧ ¬ min 1000 (3400 / 4) + 50 < cone.lHigh ∧
      cone.tripMask.has .levelHigh = false ∧ (EventSet.single .levelHigh).has .levelHigh = true := by
  decide +kernel

theorem witness_GapSamples :
    let s := station cone .running
    s.cfg.held = false ∧ s.rsc.runState ≠ .offline ∧ s.cfg.image.role = .crusher ∧
      bin.role ≠ .crusher ∧ 1 ≤ (1#12).toNat ∧ (4094#12).toNat ≤ 4094 ∧ ¬ (4095#12).toNat ≤ 4094 ∧
      ¬ 1 ≤ (0#12).toNat ∧ s.mfe.gapSampled = false ∧ s.mfe.gapValid = false ∧
      (withGap 254 s).mfe.gapValid = true ∧ (after (.sampleEvent .gapPos 0#12) s).mfe.gapSampled = true ∧
      (after (.sampleEvent .gapPos 0#12) s).mfe.gapValid = false ∧
      cone.tripMask.has .gapSensor = false ∧ (EventSet.single .gapSensor).has .gapSensor = true := by
  decide +kernel

theorem witness_SampleNotices :
    let touch := context .calibrate 5 (rec .touch 0 .none 90 false 6) .touch (.drive .lower)
    (station cone .running).mve.active = none ∧
      (moving (closing (.drive .lower))).mve.active = some (closing (.drive .lower)) ∧
      (closing (.drive .lower)).work = .gap 234 .closing ∧ (closing (.verify 1)).phase = .verify 1 ∧
      (moving (closing (.verify 1))).mfe.gapValid = true ∧ 251 ≤ 254 + cone.db ∧
      254 ≤ 251 + cone.db ∧ 250 + cone.db < 254 ∧ (closing (.verify 1)).redrives < 2 ∧
      2 ≤ ({ closing (.verify 1) with redrives := 2 } : Context).redrives ∧
      (moving touch).mve.active = some touch ∧ touch.work = .touch ∧ touch.phase = .drive .lower ∧
      (closing .settle).phase = .settle ∧ (closing .settle).record.kind ≠ .touch ∧
      (closing .settle).record.feed ≠ .stop ∧ ({ touch with phase := .settle } : Context).record.kind = .touch ∧
      busy.mve.active.map Context.phase = some .running := by
  decide +kernel

theorem witness_OrderChecks :
    let p := orderParts (.unknownKind head 15#8 none)
    p.isSome = true ∧ (station cone .ready).cfg.held = false ∧ (station cone .ready).receives = true ∧
      State.reset.receives = false ∧ (31#8).toNat = 31 ∧ (28#8).toNat = cone.panel1 ∧
      (8#8).toNat ≠ cone.number ∧ (20#8).toNat ≠ cone.panel1 ∧ (20#8).toNat ≠ cone.panel2 ∧
      orderFormOk 15#8 none = false ∧ orderFormOk 14#8 (some 0#24) = true ∧
      orderFormOk 14#8 none = false ∧ orderFormOk 0#8 none = false ∧ orderFormOk 1#8 none = true := by
  decide +kernel

theorem takes_of (s : State) (h1 : s.cfg.held = false) (h2 : s.receives = true)
    (h3 : s.addressed head.target = true) (h4 : s.permitted head.source = true) : s.takes head :=
  ⟨h1, h2, h3, h4⟩

theorem witness_RunOrders :
    (∀ r : RunState, r ≠ .offline → (station cone r).takes head) ∧
      (station cone .ready).proceeds = true ∧ (station feeder .ready).takes head ∧
      (station feeder .ready).proceeds = false ∧ (station cone .ready).cfg.image.noFeedback = false ∧
      (station cone .ready).mfe.runFbIn = false ∧ (station bin .ready).cfg.image.noFeedback = true ∧
      (station cone .tripped).mfe.pullcordIn = false ∧ (station cone .tripped).lbi.dupQuiet = 2 ∧
      (station cone .stopping).rsc.runState.inGroup = true := by
  refine ⟨?_, by decide +kernel, takes_of _ rfl rfl rfl rfl, ?_⟩
  · intro r h
    cases r <;> first | exact absurd rfl h | exact takes_of _ rfl rfl rfl rfl
  · decide +kernel

theorem witness_SettingOrders :
    (station cone .running).takes head ∧ (station cone .ready).takes head ∧
      (station feeder .ready).takes head ∧ (station bin .ready).takes head ∧
      cone.gMin < cone.gMax ∧ feeder.gMin < feeder.gMax ∧ bin.gMin < bin.gMax ∧
      (station cone .ready).cwu.ring.length ≤ 8 ∧ cone.role = .crusher ∧ feeder.role = .feeder ∧
      cone.w ≠ 0 ∧ bin.role = .bin ∧ (station cone .running).rsc.runState.isTurning = true ∧
      (station cone .ready).rsc.runState.isTurning = false := by
  refine ⟨takes_of _ rfl rfl rfl rfl, takes_of _ rfl rfl rfl rfl, takes_of _ rfl rfl rfl rfl,
    takes_of _ rfl rfl rfl rfl, ?_⟩
  decide +kernel

theorem witness_MoveOrders :
    jammed.takes head ∧ (station cone .running).takes head ∧ (station feeder .running).takes head ∧
      cone.headCalibrate.slot ≠ 0 ∧ feeder.role ≠ .crusher ∧ jammed.mve.active = none ∧
      jammed.rsc.runState.inGroup = true ∧ jammed.mve.parked.map Context.requester = some .overload ∧
      jammed.mve.bestRequest = some .calibrate ∧ jammed.mve.requests.calibrate = true ∧
      (station cone .running).mve.parked = none ∧
      (station cone .running).mve.requests.calibrate = false ∧
      (station cone .ready).rsc.runState.isTurning = false := by
  refine ⟨takes_of _ rfl rfl rfl rfl, takes_of _ rfl rfl rfl rfl, takes_of _ rfl rfl rfl rfl, ?_⟩
  decide +kernel

theorem witness_GroupEntered : (station cone .starting).rsc.runState = .starting := rfl

theorem witness_PulseAndEdges :
    let spin := { (station cone .starting).rsc with subPhase := some .spinUp }
    (station cone .running).cfg.held = false ∧ (station cone .running).rsc.runState ≠ .offline ∧
      State.reset.rsc.runState = .offline ∧ cone.role = .crusher ∧ cone.w ≠ 0 ∧ bin.role = .bin ∧
      feeder.role ≠ .crusher ∧ (station cone .ready).rsc.runState.inGroup = false ∧
      (station cone .running).rsc.runState.inGroup = true ∧ (station cone .running).cwu.attempts = 0 ∧
      cone.headTramp.slot ≠ 0 ∧ Image.blank.headTramp.slot = 0 ∧ busy.cwu.attempts ≠ 0 ∧
      busy.mve.requests.has .tramp = false ∧ spin.runState = .starting ∧
      spin.subPhase = some .spinUp ∧ bin.noFeedback = true ∧ cone.noFeedback = false ∧
      (station cone .running).mfe.pulseTimer = .stopped ∧
      (after .scalePulse (station cone .running)).mfe.pulseTimer = .running 0 := by
  decide +kernel

theorem witness_RunTimersExpire :
    let r := { (station cone .starting).rsc with startTimer := .running 0, spinTimer := .running 0 }
    (station cone .starting).cfg.held = false ∧ r.startTimer ≠ .stopped ∧ r.runState = .starting ∧
      r.subPhase = some .waitDownstream ∧ r.spinTimer ≠ .stopped ∧
      (station cone .holding).rsc.runState.isTurning = true ∧
      (station cone .stopping).rsc.runState = .stopping ∧
      (station cone .stopping).rsc.drainTimer = .stopped := by decide +kernel

theorem witness_MoveAndWearTimersExpire :
    (moving (closing .settle)).cfg.held = false ∧
      (moving (closing .settle)).mve.active = some (closing .settle) ∧
      (closing (.verify 0)).work = .gap 234 .closing ∧ (closing (.verify 0)).phase = .verify 0 ∧
      (station cone .running).mve.active = none ∧ busy.mve.active.map Context.phase = some .running ∧
      (station cone .running).cwu.secondsTimer = .stopped ∧
      (station cone .running).cwu.seconds ≠ 59 ∧ cone.calInterval = 479 + 1 ∧
      cone.headSchedule.slot ≠ 0 ∧ (station cone .running).cwu.suspended = false ∧
      feeder.headSchedule.slot = 0 := by decide +kernel

end Sys2Proof.Tests
end

/-! PROOFS. The crusher's and the bin's allowance and the feed command (chapter 4): obligations O39, O41
and O42. The laws of clamping, of the downstream allowance, of REDUCE and of the naming of the limiting
term come first. -/

namespace Sys2Proof.Machine

/-! ### Clamping -/

theorem satNat_eq_min (hi x : Nat) : satNat hi x = min hi x := by
  unfold satNat
  split <;> omega

theorem clampToNat_eq (hi : Nat) (x : Int) : clampToNat hi x = (max 0 (min (hi : Int) x)).toNat := by
  rw [clampToNat, satNat_eq_min]
  omega

/-! ### The downstream allowance and the terms of a crusher -/

theorem State.downstreamAllowance_eq (s : State) :
    s.downstreamAllowance =
      if s.cfg.image.terminal then s.cfg.image.aTerm
      else
        min 4000
          (((s.downstream.filter fun e => e.runState == .running).map PeerEntry.allowance).sum) := by
  rw [State.downstreamAllowance, satNat_eq_min]
  rfl

theorem gapTerm_eq (kc gap : Nat) : gapTerm kc gap = min 4000 (kc * gap / 100) :=
  satNat_eq_min _ _

theorem powerTerm_eq (pIdle pLim q load : Nat) :
    powerTerm pIdle pLim q load = if pIdle ≤ load then min 4000 (q * pLim / load) else 4000 := by
  rw [powerTerm, satNat_eq_min]
  rfl

theorem levelTerm_eq (kl lSet q level : Nat) :
    levelTerm kl lSet q level =
      (max 0 (min 4000
        ((q : Int) + Int.tdiv ((kl : Int) * ((lSet : Int) - (level : Int))) 16))).toNat :=
  clampToNat_eq _ _

/-! ### REDUCE -/

theorem reduced_eq (feed : Feed) (rRed own : Nat) :
    reduced feed rRed own = if feed = .reduce then own * rRed / 1000 else own := by
  cases feed <;> rfl

theorem moveCandidate_eq (feed : Feed) (own : Nat) :
    moveCandidate feed own = if feed = .reduce then [(.move, own)] else [] := by
  cases feed <;> rfl

/-- REDUCE does not raise a figure, r_red being at most 1000 per mille (R198). -/
theorem reduced_le (feed : Feed) {rRed : Nat} (h : rRed ≤ 1000) (own : Nat) :
    reduced feed rRed own ≤ own := by
  rw [reduced_eq]
  split
  · exact Nat.div_le_of_le_mul (by rw [Nat.mul_comm]; exact Nat.mul_le_mul_right own h)
  · exact le_rfl

/-! ### The limiting term -/

/-- `limiting` names the first candidate that equals the least value `m` of them all (R76). -/
theorem find?_eq_limiting (t : LimitTerm) (v : Nat) (l : List (LimitTerm × Nat)) (m : Nat)
    (hle : ∀ p ∈ (t, v) :: l, m ≤ p.2) (hmem : ∃ p ∈ (t, v) :: l, p.2 = m) :
    ((t, v) :: l).find? (fun p => p.2 == m) = some (limiting t v l, m) := by
  induction l generalizing t v with
  | nil =>
    obtain rfl : v = m := by simpa using hmem
    simp [limiting]
  | cons p l ih =>
    obtain ⟨t', v'⟩ := p
    obtain ⟨hv, hv', hl⟩ : m ≤ v ∧ m ≤ v' ∧ ∀ p ∈ l, m ≤ p.2 := by
      simpa only [List.forall_mem_cons] using hle
    have hmem' : v = m ∨ v' = m ∨ ∃ p ∈ l, p.2 = m := by
      simpa only [List.exists_mem_cons_iff] using hmem
    by_cases hlt : v' < v
    · -- the later candidate is smaller, so the first so far is not the least
      have hne : v ≠ m := by omega
      have hrest := ih t' v' (List.forall_mem_cons.2 ⟨hv', hl⟩)
        ((List.exists_mem_cons_iff ..).2 (hmem'.resolve_left hne))
      simpa [limiting, hlt, hne] using hrest
    · by_cases heq : v = m
      · subst heq
        have hrest := ih t v (List.forall_mem_cons.2 ⟨hv, hl⟩) ⟨(t, v), List.mem_cons_self, rfl⟩
        simpa [limiting, hlt] using hrest
      · -- neither of the two is the least
        have hne : v' ≠ m := by omega
        have hrest := ih t v (List.forall_mem_cons.2 ⟨hv, hl⟩)
          ((List.exists_mem_cons_iff ..).2 (.inr ((hmem'.resolve_left heq).resolve_left hne)))
        simpa [limiting, hlt, heq, hne] using hrest

/-! ### Crusher (R65 to R68) -/

/-- The candidates of a crusher, in the order of R68: their least value is the least of the own figure, which
REDUCE does not raise, and the downstream allowance. -/
theorem find?_crusher_candidates (feed : Feed) {rRed cGap cPow cLvl own : Nat} (h : rRed ≤ 1000)
    (hown : reduced feed rRed (min cGap (min cPow cLvl)) = own) (dnTerm : LimitTerm) (dn : Nat) :
    ([(LimitTerm.gap, cGap), (.power, cPow), (.level, cLvl)] ++ moveCandidate feed own ++
        [(dnTerm, dn)]).find? (fun p => p.2 == min own dn) =
      some
        (limiting .gap cGap
          ([(.power, cPow), (.level, cLvl)] ++ moveCandidate feed own ++ [(dnTerm, dn)]),
        min own dn) := by
  have hle : own ≤ min cGap (min cPow cLvl) := hown ▸ reduced_le feed h _
  have hcases :
      moveCandidate feed own = [(.move, own)] ∨
        own = min cGap (min cPow cLvl) ∧ moveCandidate feed own = [] := by
    cases feed with
    | reduce => exact .inl rfl
    | none | stop => exact .inr ⟨hown.symm, rfl⟩
  apply find?_eq_limiting
  · rcases hcases with hmove | ⟨-, hmove⟩ <;> simp [hmove] <;> omega
  · rcases hcases with hmove | ⟨heq, hmove⟩ <;> simp [hmove] <;> omega

/-- Settles O39: the model's terms are those of R65 to R67, and the term it names is the first candidate that
equals the allowance. -/
theorem crusherAllowance : Obligations.CrusherAllowance := by
  intro s _ hred i cGap cPow cLvl own aDn
  have hGap : gapTerm i.kc s.allowanceGap = cGap := gapTerm_eq _ _
  have hPow : powerTerm i.pIdle i.pLim s.mfe.q s.mfe.load = cPow := powerTerm_eq _ _ _ _
  have hLvl : levelTerm i.kl i.lSet s.mfe.q s.mfe.level = cLvl := levelTerm_eq _ _ _ _
  have hOwn : reduced s.mve.feed i.rRed (min cGap (min cPow cLvl)) = own := reduced_eq _ _ _
  have hDn : s.downstreamAllowance = aDn := s.downstreamAllowance_eq
  have hcompute : s.computeCrusher =
      { s.ale with
        a := min own aDn
        term :=
          limiting .gap cGap
            ([(.power, cPow), (.level, cLvl)] ++ moveCandidate s.mve.feed own ++
              [(s.downstreamTerm, aDn)])
        supply := false } := by
    rw [← hOwn, ← hDn, ← hGap, ← hPow, ← hLvl]
    rfl
  have hfind := find?_crusher_candidates s.mve.feed hred hOwn s.downstreamTerm aDn
  rw [hcompute, ← moveCandidate_eq]
  exact ⟨rfl, hfind⟩

/-! ### Bin (R74, R75) -/

/-- Settles O42: the sum of the downstream allowance and the space rate, clamped and then reduced. -/
theorem binAllowance : Obligations.BinAllowance := by
  intro s _ i stock rate aDn a term
  have hDn : s.downstreamAllowance = aDn := s.downstreamAllowance_eq
  have hA : clampToNat allowanceLimit ((aDn : Int) + rate) = a := clampToNat_eq _ _
  have hterm :
      (if decide (rate < 0) || decide ((aDn : Int) + rate < 0) then LimitTerm.space
        else LimitTerm.downstream) = term := by
    simp [term]
  have hcompute : s.computeBin =
      { s.ale with
        a := reduced s.mve.feed i.rRed a
        term := if reduced s.mve.feed i.rRed a < a then .move else term
        supply := false } := by
    rw [← hterm, ← hA, ← hDn]
    rfl
  constructor
  · intro hfeed
    rw [hcompute, hfeed]
    simp [reduced]
  · intro hfeed
    rw [hcompute, hfeed]
    rfl

/-! ### The feed command (R77 to R80) -/

theorem feedFull_u (f : FeedStep) : (feedFull f).u = min f.u 1000 := by
  unfold feedFull
  split
  · next h => exact (Nat.min_eq_right h.le).symm
  · next h => exact (Nat.min_eq_left (not_lt.1 h)).symm

theorem feedMinimum_u (uMin : Nat) (f : FeedStep) :
    (feedMinimum uMin f).u = if 0 < f.u ∧ f.u < uMin then uMin else f.u := by
  unfold feedMinimum
  split <;> rfl

theorem feedRamp_u (uMin duUp uPrev : Nat) (f : FeedStep) :
    (feedRamp uMin duUp uPrev f).u = min f.u (max (uPrev + duUp) uMin) := by
  unfold feedRamp
  dsimp only
  split
  · next h => exact (Nat.min_eq_right h.le).symm
  · next h => exact (Nat.min_eq_left (not_lt.1 h)).symm

theorem feedRate_some_u (uMin c : Nat) (f : FeedStep) :
    (feedRate uMin (some c) f).u = if c < f.u then if c < uMin then 0 else c else f.u := by
  unfold feedRate
  dsimp only
  split
  · split <;> rfl
  · rfl

/-- Steps 2 to 5: division, full speed, minimum speed and ramp. -/
def rampedFeed (i : Image) (uPrev a residue : Nat) : FeedStep :=
  feedRamp i.uMin i.duUp uPrev (feedMinimum i.uMin (feedFull (feedDivide i.fMax a residue)))

theorem feedCommand_of_pos (i : Image) (cap : Option Nat) (uPrev residue : Nat) {a : Nat} (h : 0 < a) :
    feedCommand i cap uPrev a residue = feedRate i.uMin cap (rampedFeed i uPrev a residue) :=
  if_neg h.ne'

theorem rampedFeed_u (i : Image) (uPrev a residue : Nat) (h : i.uMin ≤ 500) :
    let raw := (a * 1000 + residue) / i.fMax
    (rampedFeed i uPrev a residue).u =
      min (if 0 < raw ∧ raw < i.uMin then i.uMin else min raw 1000)
        (max (uPrev + i.duUp) i.uMin) := by
  intro raw
  have hdiv : (feedDivide i.fMax a residue).u = raw := rfl
  have hmin : (if 0 < min raw 1000 ∧ min raw 1000 < i.uMin then i.uMin else min raw 1000) =
      if 0 < raw ∧ raw < i.uMin then i.uMin else min raw 1000 := by
    split <;> split <;> omega
  rw [rampedFeed, feedRamp_u, feedMinimum_u, feedFull_u, hdiv, hmin]

/-- What steps 2 to 5 keep: a command is the divided value `raw` with its residue `r`, or a bound has replaced
it, with residue 0: a lower bound that is not under the minimum speed, or the minimum speed and above for a
value under it. -/
def FeedStep.Follows (uMin raw r : Nat) (f : FeedStep) : Prop :=
  f = ⟨raw, r⟩ ∨
    f.residue = 0 ∧ 0 < raw ∧ uMin ≤ f.u ∧ (f.u < raw ∨ raw < uMin)

section Follows

variable {uMin raw r : Nat} {f : FeedStep}

theorem feedFull_follows (hu : uMin ≤ 1000) : (feedFull ⟨raw, r⟩).Follows uMin raw r := by
  unfold feedFull
  split
  · next h => exact .inr ⟨rfl, by dsimp only at h; omega, hu, .inl h⟩
  · exact .inl rfl

theorem feedMinimum_follows (h : f.Follows uMin raw r) :
    (feedMinimum uMin f).Follows uMin raw r := by
  unfold feedMinimum
  split
  · next hlow =>
    rcases h with rfl | ⟨-, -, hge, -⟩
    · exact .inr ⟨rfl, hlow.1, le_rfl, .inr hlow.2⟩
    · exact absurd hlow.2 (not_lt.2 hge)
  · exact h

theorem feedRamp_follows (h : f.Follows uMin raw r) (duUp uPrev : Nat) :
    (feedRamp uMin duUp uPrev f).Follows uMin raw r := by
  unfold feedRamp
  dsimp only
  split
  · next hcut =>
    have hge : uMin ≤ max (uPrev + duUp) uMin := le_max_right _ _
    rcases h with rfl | ⟨-, hpos, -, hlt | hlt⟩
    · exact .inr ⟨rfl, Nat.zero_lt_of_lt hcut, hge, .inl hcut⟩
    · exact .inr ⟨rfl, hpos, hge, .inl (hcut.trans hlt)⟩
    · exact .inr ⟨rfl, hpos, hge, .inr hlt⟩
  · exact h

/-- The residue stands exactly with the divided value. -/
theorem FeedStep.Follows.residue_eq (h : f.Follows uMin raw r) :
    f.residue = if f.u = raw then r else 0 := by
  rcases h with rfl | ⟨hres, -, hge, hlt⟩
  · simp
  · have hne : f.u ≠ raw := by omega
    rw [hres, if_neg hne]

/-- The cap of a RATE_FOR keeps that: a capped command is not the divided value. -/
theorem feedRate_residue_of_follows (h : f.Follows uMin raw r) (cap : Option Nat) :
    (feedRate uMin cap f).residue = if (feedRate uMin cap f).u = raw then r else 0 := by
  cases cap with
  | none => exact h.residue_eq
  | some c =>
    by_cases hcut : c < f.u
    · have hres : (feedRate uMin (some c) f).residue = 0 := by
        simp only [feedRate, if_pos hcut]
        split <;> rfl
      have hne : (feedRate uMin (some c) f).u ≠ raw := by
        rw [feedRate_some_u, if_pos hcut]
        rcases h with rfl | ⟨-, hpos, hge, hlt⟩
        · dsimp only at hcut
          split <;> omega
        · split <;> omega
      rw [hres, if_neg hne]
    · have hkeep : feedRate uMin (some c) f = f := if_neg hcut
      rw [hkeep]
      exact h.residue_eq

end Follows

theorem rampedFeed_follows (i : Image) (uPrev a residue : Nat) (h : i.uMin ≤ 500) :
    (rampedFeed i uPrev a residue).Follows i.uMin ((a * 1000 + residue) / i.fMax)
      ((a * 1000 + residue) % i.fMax) :=
  feedRamp_follows (feedMinimum_follows (feedFull_follows (by omega))) _ _

/-- Settles O41: the command is that of the steps in turn, and the residue follows the divided value. -/
theorem feedCommandSteps : Obligations.FeedCommandSteps := by
  intro i cap uPrev a residue hmin f raw v4 v5
  refine ⟨fun ha => if_pos ha, fun ha => ?_⟩
  have hf : f = feedRate i.uMin cap (rampedFeed i uPrev a residue) :=
    feedCommand_of_pos i cap uPrev residue ha
  have hv5 : (rampedFeed i uPrev a residue).u = v5 := rampedFeed_u i uPrev a residue hmin
  refine ⟨?_, ?_, ?_⟩
  · rintro rfl
    rw [hf]
    exact hv5
  · rintro c rfl
    have hu : f.u = if c < v5 then if c < i.uMin then 0 else c else v5 := by
      rw [hf, feedRate_some_u, hv5]
    refine ⟨fun hle => ?_, fun hcut hge => ?_, fun hcut hlow => ?_⟩
    · rw [hu, if_neg (not_lt.2 hle)]
    · rw [hu, if_pos hcut, if_neg (not_lt.2 hge)]
    · rw [hu, if_pos hcut, if_pos hlow]
  · rw [hf]
    exact feedRate_residue_of_follows (rampedFeed_follows i uPrev a residue hmin) cap

end Sys2Proof.Machine

/-! PROOFS. What every move keeps. An invariant that the elementary effects of a move keep is kept by every
operation of the move engine and of the calibration and wear unit; here that is shown once for all such
invariants. -/

namespace Sys2Proof.Machine

/-! ### The elementary effects of a move -/

/-- The table, g_set and the places of contexts stand as they were. -/
structure Mve.SamePlaces (m n : Mve) : Prop where
  table : n.table = m.table
  gSet : n.gSet = m.gSet
  active : n.active = m.active
  stack : n.stack = m.stack
  parked : n.parked = m.parked

/-- The wear ring, its selection and the attempt count stand as they were. -/
structure Cwu.SameStores (c d : Cwu) : Prop where
  ring : d.ring = c.ring
  selection : d.selection = c.selection
  attempts : d.attempts = c.attempts

/-- So do gap zero, total wear and the calibration number. -/
structure Cwu.SameAccount (c d : Cwu) : Prop extends c.SameStores d where
  r0 : d.r0 = c.r0
  totalWear : d.totalWear = c.totalWear
  calNumber : d.calNumber = c.calNumber

/-- A context that goes on as another one of the same chain. -/
structure Context.GoesOn (c d : Context) : Prop where
  requester : d.requester = c.requester
  executed : d.executed ≤ c.executed
  redrives : d.redrives = c.redrives ∨ d.redrives ≤ 2
  phase : d.phase = c.phase ∨ ∀ n, d.phase = .verify n → n ≤ 1
  status : d.status = c.status ∨ d.status = .new

/-- The invariant `I` is kept by the elementary effects of a move, where `W` holds also by those of a
calibration; `F s c` says that `c` may be the active context of `s`. -/
structure MoveInv (W : Prop) (I : State → Prop) (F : State → Context → Prop) : Prop where
  setHold : ∀ {s : State} (h : HoldSet), I s → I (s.setHold h)
  trip : ∀ {s : State} (c : TripCause), I s → I (s.trip c)
  raise : ∀ {s : State} (k : EventKind), I s → I (s.raise k)
  quiet : ∀ {s : State} {m : Mve} {d : Cwu}, I s → s.mve.SamePlaces m → s.cwu.SameAccount d →
    I { s with mve := m, cwu := d }
  account : ∀ {s : State} {d : Cwu} {f : Mfe}, W → I s → s.cwu.SameStores d →
    f.window.length = s.mfe.window.length → I { s with cwu := d, mfe := f }
  attempts : ∀ {s : State} (n : Nat), I s → s.cwu.attempts ≠ 0 →
    I { s with cwu := { s.cwu with attempts := n } }
  append : ∀ {s : State} (r : CalRecord), W → I s → I (s.appendCal r)
  slot : ∀ {s : State} (c : Context), I s → I (s.updateSlot c)
  idle : ∀ {s : State}, I s → I s.noActive
  active : ∀ {s : State} {c : Context}, I s → s.mve.active = some c → F s c
  set : ∀ {s : State} {c : Context}, I s → F s c → I (s.setActive c)
  frame : ∀ {s t : State} {c : Context}, F s c → t.mve.stack = s.mve.stack →
    t.mve.parked = s.mve.parked → t.rsc.runState = s.rsc.runState → F t c
  goesOn : ∀ {s : State} {c d : Context}, F s c → c.GoesOn d → F s d
  next : ∀ {s : State} {c : Context}, F s c → c.executed + 1 < 64 →
    F s { c with executed := c.executed + 1 }
  grant : ∀ {s : State} {r : Requester} (h : Head), I s → s.rsc.runState.inGroup = true →
    s.mve.active = none →
    r = .tramp ∨ (s.mve.parked = none ∧
      ∀ top, s.mve.stack.getLast? = some top → top.requester.priority < r.priority) →
    F s (newContext r h)
  push : ∀ {s : State} {c : Context} {r : Requester} (h : Head), I s → s.mve.active = some c →
    c.requester.priority < r.priority →
    I { s with mve := { s.mve with active := none, stack := s.mve.stack ++ [c.suspend] } } ∧
      F { s with mve := { s.mve with active := none, stack := s.mve.stack ++ [c.suspend] } }
        (newContext r h)
  pop : ∀ {s : State} {c : Context}, I s → s.rsc.runState.inGroup = true → s.mve.active = none →
    s.mve.parked = none → s.mve.stack.getLast? = some c →
    I { s with mve := { s.mve with stack := s.mve.stack.dropLast } } ∧
      F { s with mve := { s.mve with stack := s.mve.stack.dropLast } } { c with status := .new }
  park : ∀ {s : State} {c d : Context} (f : FaultStatus), I s → s.mve.active = some c →
    c.requester.priority ≠ 3 → d.requester = c.requester → d.executed ≤ c.executed + 1 →
    d.redrives = c.redrives → (d.phase = c.phase ∨ ∀ n, d.phase = .verify n → n ≤ 1) →
    I { s with mve := { s.mve with active := none, parked := some { d with status := .fault f } } }
  unpark : ∀ {s : State} {c : Context}, I s → s.rsc.runState.inGroup = true → s.mve.active = none →
    s.mve.parked = some c →
    F { s with mve := { s.mve with parked := none } } { c with executed := 0, status := .new }
  empty : ∀ {s : State}, I s → I { s with mve := { s.mve with parked := none } }

theorem Context.GoesOn.refl (c : Context) : c.GoesOn c :=
  ⟨rfl, le_rfl, .inl rfl, .inl rfl, .inl rfl⟩

theorem decidePhase_verify {db gap target n : Nat} (h : decidePhase db gap target = .verify n) :
    n = 0 := by
  unfold decidePhase at h
  split at h
  · cases h
  · split at h <;> cases h
    rfl

theorem Cwu.SameAccount.refl (c : Cwu) : c.SameAccount c := ⟨⟨rfl, rfl, rfl⟩, rfl, rfl, rfl⟩

theorem Cwu.clearedIf_sameAccount (c : Cwu) (b : Bool) :
    c.SameAccount (if b then c.clearContact else c) := by
  cases b <;> exact ⟨⟨rfl, rfl, rfl⟩, rfl, rfl, rfl⟩

theorem State.updateSlot_active (s : State) (c : Context) :
    (s.updateSlot c).mve.active = s.mve.active := by
  unfold State.updateSlot; split <;> rfl

namespace MoveInv

variable {W : Prop} {I : State → Prop} {F : State → Context → Prop} (M : MoveInv W I F) {s : State} {c d : Context}
include M

/-! ### Updates of the MVE and the CWU -/

theorem mve {m : Mve} (h : I s) (hm : s.mve.SamePlaces m) : I { s with mve := m } :=
  M.quiet h hm (.refl _)

theorem cwu {d : Cwu} (h : I s) (hd : s.cwu.SameAccount d) : I { s with cwu := d } :=
  M.quiet h ⟨rfl, rfl, rfl, rfl, rfl⟩ hd

theorem stopMoveTimers (h : I s) : I s.stopMoveTimers :=
  M.quiet h ⟨rfl, rfl, rfl, rfl, rfl⟩ ⟨⟨rfl, rfl, rfl⟩, rfl, rfl, rfl⟩

theorem putRequest (r : Requester) (h : I s) : I (s.putRequest r) :=
  M.mve h ⟨rfl, rfl, rfl, rfl, rfl⟩

theorem syncHold (h : I s) : I s.syncHold := M.setHold _ h

theorem tripIfSelected (k : EventKind) (h : I s) : I (s.tripIfSelected k) := by
  unfold State.tripIfSelected
  split
  · exact M.trip _ h
  · exact h

theorem trampEnd (h : I s) : I s.trampEnd := by
  unfold State.trampEnd
  split
  · exact h
  · next ha =>
    split
    · split
      · exact M.mve (s := { s with cwu := { s.cwu with attempts := s.cwu.attempts + 1 } })
          (M.attempts _ h ha) ⟨rfl, rfl, rfl, rfl, rfl⟩
      · exact M.trip _ h
    · split
      · exact h
      · exact M.attempts _ h ha

/-! ### Phases and loads -/

theorem setPhase (p : Phase) (hp : ∀ n, p = .verify n → n ≤ 1) (h : F s c) :
    F s { c with phase := p } :=
  M.goesOn h ⟨rfl, le_rfl, .inl rfl, .inr hp, .inl rfl⟩

theorem driveDecision (restart : Bool) (h : I s) (hc : F s c) : I (s.driveDecision c restart).1 := by
  unfold State.driveDecision
  split
  · dsimp only
    refine M.quiet (s := s.setActive { c with phase := _ }) (M.set h (M.setPhase _ ?_ hc))
      ⟨rfl, rfl, rfl, rfl, rfl⟩ (s.cwu.clearedIf_sameAccount _)
    intro n hn
    split at hn
    · exact (decidePhase_verify hn).le.trans zero_le_one
    all_goals cases hn
  · exact h

theorem settled (h : I s) (hc : F s c) : I (s.settled c).1 :=
  M.driveDecision true (M.mve h ⟨rfl, rfl, rfl, rfl, rfl⟩) (M.frame hc rfl rfl rfl)

theorem enterSettle (h : I s) (hc : F s c) : I (s.enterSettle c).1 := by
  have hp : F s { c with phase := .settle } := M.setPhase _ (fun _ hn => by cases hn) hc
  have hs : I { s with
      mve := { s.mve with
        active := some { c with phase := .settle }, settleTimer := .running 0, aleActed := false } } :=
    M.mve (s := s.setActive { c with phase := .settle }) (M.set h hp) ⟨rfl, rfl, rfl, rfl, rfl⟩
  unfold State.enterSettle
  dsimp only
  split
  · exact M.settled hs (M.frame hp rfl rfl rfl)
  · exact hs

theorem enterGap (h : I s) (hc : F s c) : I (s.enterGap c).1 := by
  unfold State.enterGap
  split
  · exact M.driveDecision true (M.set h hc) (M.frame hc rfl rfl rfl)
  · exact M.enterSettle h hc

/-- A load makes a context active that goes on as one that may be. -/
theorem loadActive (h : I s) (hc : F s { c with status := .new }) : I (s.loadActive c).1 := by
  have hload : ∀ (r : MoveRecord) (w : Working) (p : Phase), (∀ n, p = .verify n → n ≤ 1) →
      F s { c with record := r, work := w, phase := p, redrives := 0, status := .new } :=
    fun r w p hp => M.goesOn hc ⟨rfl, le_rfl, .inr (Nat.zero_le 2), .inr hp, .inl rfl⟩
  have hset : ∀ (r : MoveRecord) (w : Working) (p : Phase), (∀ n, p = .verify n → n ≤ 1) →
      I (s.setActive { c with record := r, work := w, phase := p, redrives := 0, status := .new }) :=
    fun r w p hp => M.set h (hload r w p hp)
  have hnl : ∀ n, Phase.load = .verify n → n ≤ 1 := fun _ hn => by cases hn
  have hnr : ∀ n, Phase.running = .verify n → n ≤ 1 := fun _ hn => by cases hn
  have hfr : ∀ {t : State} (r : MoveRecord) (w : Working), t.mve.stack = s.mve.stack →
      t.mve.parked = s.mve.parked → t.rsc.runState = s.rsc.runState →
      F t { c with record := r, work := w, phase := .load, redrives := 0, status := .new } :=
    fun r w h1 h2 h3 => M.frame (hload r w _ hnl) h1 h2 h3
  unfold State.loadActive
  dsimp only
  split
  · exact hset _ _ _ hnl
  · split
    · exact M.enterGap (hset _ _ _ hnl) (hfr _ _ rfl rfl rfl)
    · split
      · split
        · exact M.enterGap (M.raise _ (hset _ _ _ hnl)) (hfr _ _ rfl rfl rfl)
        · exact M.enterGap (hset _ _ _ hnl) (hfr _ _ rfl rfl rfl)
      · exact hset _ _ _ hnl
    · exact M.enterGap (hset _ _ _ hnl) (hfr _ _ rfl rfl rfl)
    · exact hset _ _ _ hnr
    · exact hset _ _ _ hnr

/-! ### Grants, resumptions and faults -/

theorem grantState {r : Requester} (h : I s) (hc : ∀ hd, F s (newContext r hd)) :
    I (s.grant r).1 := by
  refine M.loadActive (M.mve h ?_) (M.frame (hc _) ?_ ?_ rfl)
  all_goals
    cases r
    all_goals first | exact ⟨rfl, rfl, rfl, rfl, rfl⟩ | rfl

theorem resume (h : I s) (hc : F s { c with status := .new }) : I (s.resume c).1 := by
  have hs : I (s.setActive { c with status := .new }) := M.set h hc
  have hf : F (s.setActive { c with status := .new }) { c with status := .new } :=
    M.frame hc rfl rfl rfl
  unfold State.resume
  dsimp only
  split
  · split
    · exact M.driveDecision true hs hf
    · exact M.driveDecision true hs hf
    all_goals exact M.enterSettle hs hf
  · split
    · exact M.driveDecision true hs hf
    · exact M.driveDecision true hs hf
    all_goals exact M.enterSettle hs hf
  · exact M.enterSettle hs hf
  · exact hs
  · exact hs

theorem faultHigh (h : I s) : I s.faultHigh := M.trip _ (M.idle (M.stopMoveTimers h))

theorem selectTramp (h : I s) : I s.selectTramp := by
  unfold State.selectTramp
  split
  · next hg =>
    simp only [Bool.and_eq_true, Option.isNone_iff_eq_none] at hg
    obtain ⟨⟨hgroup, hnone⟩, -⟩ := hg
    have hl : I (s.grant .tramp).1 := M.grantState h fun hd => M.grant hd h hgroup hnone (.inl rfl)
    split
    · next heq => rw [heq] at hl; exact hl
    · next heq => rw [heq] at hl; exact M.faultHigh hl
  · exact h

/-- A fault of a context that goes on as the active one of `s`, with at most one more completed record. -/
theorem faultOf (f : FaultStatus) (h : I s) (ha : s.mve.active = some c)
    (hr : d.requester = c.requester) (he : d.executed ≤ c.executed + 1)
    (hd : d.redrives = c.redrives) (hp : d.phase = c.phase ∨ ∀ n, d.phase = .verify n → n ≤ 1) :
    I ((s.setActive d).fault f) := by
  unfold State.fault State.setActive
  dsimp only
  split
  · exact M.trip _ (M.idle (s := s.stopMoveTimers) (M.stopMoveTimers h))
  · next hne =>
    have hp1 := M.park f (M.stopMoveTimers h) ha (hr ▸ hne) hr he hd hp
    exact M.selectTramp (M.raise .moveFault hp1)

theorem fault (f : FaultStatus) (h : I s) : I (s.fault f) := by
  cases ha : s.mve.active with
  | none => simpa [State.fault, ha] using h
  | some c =>
    have hs : s.setActive c = s := by simp [State.setActive, ← ha]
    simpa [hs] using M.faultOf (d := c) f h ha rfl (Nat.le_succ _) rfl (.inl rfl)

theorem finish {l : Loaded} (h : I l.1) : I l.finish := by
  rcases l.finish_cases with ⟨-, e⟩ | ⟨f, -, e⟩ <;> rw [e]
  · exact h
  · exact M.fault f h

/-! ### The arbiter -/

theorem selectFree (h : I s) (hg : s.rsc.runState.inGroup = true) (ha : s.mve.active = none)
    (hp : s.mve.parked = none) : I s.selectFree := by
  have hres : ∀ top, s.mve.stack.getLast? = some top → I (s.resumeTop top).finish := fun top ht =>
    let ⟨hi, hf⟩ := M.pop h hg ha hp ht
    M.finish (M.resume hi hf)
  have hgr : ∀ r, (∀ top, s.mve.stack.getLast? = some top →
      top.requester.priority < r.priority) → I (s.grant r).finish := fun r hr =>
    M.finish (M.grantState h fun hd => M.grant hd h hg ha (.inr ⟨hp, hr⟩))
  unfold State.selectFree
  split
  · exact h
  · next ht _ => exact hres _ ht
  · next ht _ => exact hgr _ fun top htop => by simp [ht] at htop
  · next top r ht _ =>
    split
    · next hlt => exact hgr r fun top' htop => by rw [ht] at htop; cases htop; exact hlt
    · exact hres _ ht

theorem select (h : I s) : I s.select := by
  unfold State.select
  split
  · next hg =>
    simp only [Bool.and_eq_true, Option.isNone_iff_eq_none] at hg
    split
    · exact M.selectTramp h
    · next hp => exact M.selectFree h hg.1 hg.2 (by simpa using hp)
  · exact h

theorem preempt {r : Requester} (h : I s) (ha : s.mve.active = some c)
    (hp : c.requester.priority < r.priority) : I (s.preempt c r) :=
  have hpush := fun hd => M.push (s := s.stopMoveTimers) (r := r) hd (M.stopMoveTimers h) ha hp
  M.finish (M.grantState (hpush ⟨0, false⟩).1 fun hd => (hpush hd).2)

theorem grantPoint (r : Requester) (h : I s) : I (s.grantPoint r) := by
  rcases s.grantPoint_cases r with ⟨-, e⟩ | ⟨c, ha, e | ⟨hp, e⟩⟩ <;> rw [e]
  · exact M.select h
  · exact h
  · exact M.preempt h ha hp

theorem request (r : Requester) (h : I s) : I (s.request r) := by
  rcases s.request_cases r with e | ⟨-, e⟩ <;> rw [e]
  · exact h
  · exact M.syncHold (M.grantPoint r (M.putRequest r h))

theorem requestChain (r : Requester) (h : I s) : I (s.requestChain r) := by
  unfold State.requestChain
  split
  · exact M.request r h
  · exact h

/-! ### Completions -/

theorem endChain (h : I s) : I (s.endChain c) := by
  unfold State.endChain
  dsimp only
  split
  · exact M.select (M.trampEnd (M.idle h))
  · exact M.select (M.idle h)

theorem notifyChain (h : I s) : I (s.notifyChain c) := by
  unfold State.notifyChain
  split
  · exact M.raise _ h
  · exact h

/-- A completion of a context that goes on as the active one. -/
theorem complete (h : I s) (ha : s.mve.active = some c) (hr : d.requester = c.requester)
    (he : d.executed = c.executed) (hd : d.redrives = c.redrives)
    (hp : d.phase = c.phase ∨ ∀ n, d.phase = .verify n → n ≤ 1) : I (s.complete d) := by
  have h1 : I ((s.stopMoveTimers.updateSlot d).notifyChain d) :=
    M.notifyChain (M.slot d (M.stopMoveTimers h))
  have ha1 : ((s.stopMoveTimers.updateSlot d).notifyChain d).mve.active = some c := by
    have : ((s.stopMoveTimers.updateSlot d).notifyChain d).mve =
        (s.stopMoveTimers.updateSlot d).mve := by
      unfold State.notifyChain; split <;> rfl
    rw [this, State.updateSlot_active]
    exact ha
  unfold State.complete
  dsimp only
  split
  · exact M.endChain h1
  · split
    · exact M.faultOf .loop h1 ha1 hr (by dsimp only; omega) hd (.inr fun _ hn => by cases hn)
    · next hlt =>
      simp only [loopLimit, not_le] at hlt
      have hF : F ((s.stopMoveTimers.updateSlot d).notifyChain d)
          { c with executed := c.executed + 1 } :=
        M.next (M.active h1 ha1) (by omega)
      exact M.finish (M.loadActive h1
        (M.goesOn hF ⟨hr, by dsimp only; omega, .inl hd, hp, .inr rfl⟩))

/-! ### Events at the active record -/

theorem reduceTest (h : I s) : I s.reduceTest := by
  rcases s.reduceTest_cases with e | ⟨c, ha, -, e⟩ <;> rw [e]
  · exact h
  · exact M.syncHold (M.finish (M.settled h (M.active h ha)))

theorem stopTest (h : I s) : I s.stopTest := by
  rcases s.stopTest_cases with e | ⟨c, ha, -, e⟩ <;> rw [e]
  · exact h
  · exact M.syncHold (M.finish (M.settled h (M.active h ha)))

theorem changeHold (h : HoldSet) (hs : I s) : I (s.changeHold h) := by
  rcases s.changeHold_cases h with e | e <;> rw [e]
  · exact M.setHold h hs
  · exact M.reduceTest (M.setHold h hs)

theorem reconvertGap (hw : W) (h : I s) : I s.reconvertGap := by
  unfold State.reconvertGap
  split
  · exact M.account hw h ⟨rfl, rfl, rfl⟩ rfl
  · exact h

theorem acceptContact (rc : Nat) (w : Int) (reference : Bool) (hw : W) (h : I s) :
    I (s.acceptContact rc w reference) := by
  have h0 : I (s.setZero rc) := M.reconvertGap hw (M.account hw h ⟨rfl, rfl, rfl⟩ rfl)
  have h1 : ∀ total, I ({ s.setZero rc with
      cwu := { (s.setZero rc).cwu with totalWear := total, due := false, sinceCal := 0 } }) :=
    fun total => M.account hw h0 ⟨rfl, rfl, rfl⟩ rfl
  unfold State.acceptContact
  extract_lets s1 total s2 s3
  split
  · exact M.raise _ (M.raise _ (h1 total))
  · exact M.raise _ (h1 total)

theorem afterRejection (h : I s) : I s.afterRejection := by
  have h1 : I (if s.cwu.suspended then s.raise .calSuspect else s) := by
    split
    · exact M.raise _ h
    · exact h
  unfold State.afterRejection
  dsimp only
  generalize (if s.cwu.suspended then s.raise .calSuspect else s) = t at h1
  split
  · exact M.mve h1 ⟨rfl, rfl, rfl, rfl, rfl⟩
  · exact h1

theorem evaluateContact (hw : W) (h : I s) : I s.evaluateContact := by
  have h1 : I { s with cwu := { s.cwu with calNumber := nextNumber s.cwu.calNumber } } :=
    M.account hw h ⟨rfl, rfl, rfl⟩ rfl
  unfold State.evaluateContact
  dsimp only
  split
  · exact M.append _ hw (M.acceptContact _ _ _ hw h1)
  · exact M.afterRejection (M.append _ hw (M.raise _ h1))

end MoveInv

theorem State.setZero_mve (s : State) (rc : Nat) : (s.setZero rc).mve = s.mve := by
  unfold State.setZero State.reconvertGap
  split <;> rfl

theorem State.acceptContact_mve (s : State) (rc : Nat) (w : Int) (reference : Bool) :
    (s.acceptContact rc w reference).mve = s.mve := by
  unfold State.acceptContact
  extract_lets s1 total s2 s3
  split <;> exact s.setZero_mve rc

theorem State.afterRejection_active (s : State) :
    s.afterRejection.mve.active = s.mve.active := by
  unfold State.afterRejection
  dsimp only
  split <;> split <;> rfl

/-- The evaluation of a contact leaves the active record. -/
theorem State.evaluateContact_active (s : State) :
    s.evaluateContact.mve.active = s.mve.active := by
  unfold State.evaluateContact
  dsimp only
  split
  · exact congrArg Mve.active (State.acceptContact_mve _ _ _ _)
  · exact State.afterRejection_active _

namespace MoveInv

variable {W : Prop} {I : State → Prop} {F : State → Context → Prop} (M : MoveInv W I F) {s : State} {c : Context}
include M

theorem contact (hw : W) (h : I s) (ha : s.mve.active = some c) : I (s.contact c) :=
  M.complete (c := c) (M.evaluateContact hw (M.stopMoveTimers h))
    ((State.evaluateContact_active _).trans ha) rfl rfl rfl (.inr fun _ hn => by cases hn)

theorem driveSample (dir : Direction) (target : Nat) (h : I s) (ha : s.mve.active = some c) :
    I (s.driveSample c dir target) := by
  have hv : I (s.setActive { c with phase := .verify 0 }) :=
    M.set h (M.setPhase _ (fun n hn => by cases hn; exact Nat.zero_le 1) (M.active h ha))
  unfold State.driveSample
  split
  · exact M.fault _ h
  · dsimp only
    split
    all_goals
      split
      · exact hv
      · exact h

theorem verifySample (n target : Nat) (h : I s) (ha : s.mve.active = some c) :
    I (s.verifySample c n target) := by
  have hc := M.active h ha
  unfold State.verifySample
  split
  · exact M.fault _ h
  · split
    · split
      · exact M.set h (M.setPhase _ (fun k hk => by cases hk; omega) hc)
      · exact M.complete h ha rfl rfl rfl (.inr fun _ hn => by cases hn)
    · split
      · exact M.finish (M.driveDecision false h
          (M.goesOn hc ⟨rfl, le_rfl, .inr (by dsimp only; omega), .inl rfl, .inl rfl⟩))
      · exact M.fault _ h

theorem touchSample (hw : W) (h : I s) (ha : s.mve.active = some c) : I (s.touchSample c) := by
  have hs : I { s with cwu := s.cwu.countStill s.mfe.raw } := by
    refine M.cwu h ?_
    unfold Cwu.countStill
    split <;> exact ⟨⟨rfl, rfl, rfl⟩, rfl, rfl, rfl⟩
  unfold State.touchSample
  split
  · exact M.fault _ h
  · dsimp only
    split
    · exact M.contact hw hs ha
    · exact hs

theorem gapNotice (hw : W) (h : I s) : I s.gapNotice := by
  unfold State.gapNotice
  split
  · exact h
  · next c ha =>
    split
    · exact M.syncHold (M.driveSample _ _ h ha)
    · exact M.syncHold (M.verifySample _ _ h ha)
    · exact M.syncHold (M.touchSample hw h ha)
    · exact h

theorem loadNotice (hw : W) (h : I s) : I s.loadNotice := by
  have hs : I { s with cwu := s.cwu.countLoad s.cfg.image.pTouch s.mfe.load } :=
    M.cwu h ⟨⟨rfl, rfl, rfl⟩, rfl, rfl, rfl⟩
  unfold State.loadNotice
  split
  · exact h
  · next c ha =>
    split
    · dsimp only
      split
      · exact M.syncHold (M.contact hw hs ha)
      · exact hs
    · exact M.stopTest h

theorem settleExpired (h : I s) : I s.settleExpired := by
  unfold State.settleExpired
  split
  · exact h
  · split
    · exact M.syncHold (M.fault _ h)
    · exact h

theorem recordExpired (h : I s) : I s.recordExpired := by
  unfold State.recordExpired
  split
  · exact h
  · split
    · exact M.syncHold (M.fault _ h)
    · exact M.syncHold (M.fault _ h)
    all_goals exact h

theorem remainingExpired (h : I s) : I s.remainingExpired := by
  unfold State.remainingExpired
  split
  · exact h
  · next c ha =>
    split
    · exact M.syncHold (M.complete h ha rfl rfl rfl (.inl rfl))
    · exact h

theorem retryPreempt (h : I s) : I s.retryPreempt := by
  unfold State.retryPreempt
  split
  · next ha _ =>
    split
    · next hp => exact M.preempt h ha hp
    · exact h
  · exact h

theorem retry (h : I s) (ht : s.retryTaken = true) (hp : s.mve.parked = some c) :
    I (s.retry c) := by
  simp only [State.retryTaken, Bool.and_eq_true, Option.isNone_iff_eq_none] at ht
  have hl : I (State.loadActive { s with mve := { s.mve with parked := none } }
      { c with executed := 0 }).1 :=
    M.loadActive (c := { c with executed := 0 }) (M.empty h) (M.unpark (c := c) h ht.1.1 ht.2 hp)
  unfold State.retry
  dsimp only
  split
  · exact M.syncHold (M.retryPreempt hl)
  · exact M.syncHold (M.fault _ hl)

theorem discardFault (h : I s) : I s.discardFault := M.syncHold (M.select (M.empty h))

end MoveInv

end Sys2Proof.Machine

/-! PROOFS. The two sides of the bus: which updates of the LBI leave the sending and the receiving side as
they may stand. -/

namespace Sys2Proof.Machine

/-- Both bus sides stand as they may. -/
def State.busOk (s : State) : Prop := s.sendingOk ∧ s.receivingOk

section Sides

variable {s : State} {l : Lbi}

theorem State.sends_withLbi (h : l.inhibit = s.lbi.inhibit) : ({ s with lbi := l }).sends = s.sends := by
  simp [State.sends, h]

/-- While the sending side runs it may stand in every state. -/
theorem State.sendingOk.sending (hs : s.sendingOk) (hr : s.sends = true)
    (hi : l.inhibit = s.lbi.inhibit) (ha : l.attempts ≤ 3)
    (hc : l.tx = .sending → l.contents.isSome) : ({ s with lbi := l }).sendingOk := by
  refine ⟨fun hn => ?_, fun hin => hs.2.1 (hi ▸ hin), ha, hc⟩
  rw [State.sends_withLbi hi, hr] at hn
  cases hn

theorem State.sendingOk.same (hs : s.sendingOk) (ht : l.tx = s.lbi.tx)
    (ha : l.attempts = s.lbi.attempts) (he : l.earlyPending = s.lbi.earlyPending)
    (hi : l.inhibit = s.lbi.inhibit) (hc : l.contents = s.lbi.contents) :
    ({ s with lbi := l }).sendingOk := by
  obtain ⟨hidle, hinh, hatt, hcon⟩ := hs
  refine ⟨fun hn => ?_, fun hin => hinh (hi ▸ hin), by simpa [ha] using hatt, ?_⟩
  · rw [State.sends_withLbi hi] at hn
    simpa [ht, ha, he] using hidle hn
  · simpa [ht, hc] using hcon

/-- A sending side that is not idle runs. -/
theorem State.sendingOk.runs (hs : s.sendingOk) (ht : s.lbi.tx ≠ .idle) : s.sends = true := by
  by_contra hn
  exact ht (hs.1 (by simpa using hn)).1

theorem State.receivingOk.same (hs : s.receivingOk) (hx : l.rx = s.lbi.rx)
    (hb : l.rxBytes = s.lbi.rxBytes) : ({ s with lbi := l }).receivingOk := by
  simpa only [State.receivingOk, State.receives, hx, hb] using hs

theorem State.receivingOk.hunting (hx : l.rx = .hunt) (hb : l.rxBytes = []) :
    ({ s with lbi := l }).receivingOk := by
  simp [State.receivingOk, hx, hb]

/-! ### Updates of the LBI -/

theorem State.busOk.tookTelegram (h : s.busOk) : s.tookTelegram.busOk :=
  ⟨h.1.same rfl rfl rfl rfl rfl, .hunting rfl rfl⟩

theorem State.busOk.heard (h : s.busOk) : s.heard.busOk :=
  ⟨h.1.same rfl rfl rfl rfl rfl, h.2.same rfl rfl⟩

theorem State.busOk.hunt (h : s.busOk) : ({ s with lbi := s.lbi.hunt }).busOk :=
  ⟨h.1.same rfl rfl rfl rfl rfl, .hunting rfl rfl⟩

theorem State.busOk.times (t : Timer) (n : Nat) (h : s.busOk) :
    ({ s with lbi := { s.lbi with periodTimer := t, idleTime := n } }).busOk :=
  ⟨h.1.same rfl rfl rfl rfl rfl, h.2.same rfl rfl⟩

theorem State.busOk.idleGap (h : s.busOk) (hr : s.receives = true) :
    ({ s with lbi := { s.lbi.hunt with rx := .armed } }).busOk := by
  exact ⟨h.1.same rfl rfl rfl rfl rfl, fun hn => Bool.noConfusion (hr.symm.trans hn), fun _ => rfl,
    fun hc => by cases hc⟩

theorem State.busOk.arm (h : s.busOk) (hr : s.receives = true) (b : Bool) :
    ({ s with
      lbi := { s.lbi with rx := .collect, rxBytes := [delimiter], rxDriven := b } }).busOk := by
  exact ⟨h.1.same rfl rfl rfl rfl rfl, fun hn => Bool.noConfusion (hr.symm.trans hn),
    fun hc => absurd rfl hc, fun _ => ⟨rfl, fun hlen => by simp at hlen⟩⟩

/-- A byte that is stored leaves fewer bytes than the length byte says, unless it completes the telegram. -/
theorem State.busOk.store (h : s.busOk) (hr : s.receives = true) (hx : s.lbi.rx = .collect) (b : Byte)
    (hbad : badLength (s.lbi.rxBytes ++ [b]) = false)
    (hdone : ¬(2 ≤ (s.lbi.rxBytes ++ [b]).length ∧
      (s.lbi.rxBytes ++ [b]).length = lengthByte (s.lbi.rxBytes ++ [b]))) :
    ({ s with lbi := { s.lbi with rxBytes := s.lbi.rxBytes ++ [b] } }).busOk := by
  obtain ⟨hhead, hlong⟩ := h.2.2.2 hx
  refine ⟨h.1.same rfl rfl rfl rfl rfl, fun hn => Bool.noConfusion (hr.symm.trans hn),
    fun hc => absurd hx hc, fun _ => ?_⟩
  dsimp only
  cases hl : s.lbi.rxBytes with
  | nil => simp [hl] at hhead
  | cons a l =>
    rw [hl] at hhead hlong hbad hdone
    cases l with
    | nil =>
      have hlen : 10 ≤ lengthByte [a, b] ∧ lengthByte [a, b] ≤ 48 := by
        have hb : decide (lengthByte [a, b] < smallestTelegram) = false ∧
            decide (largestTelegram < lengthByte [a, b]) = false := by
          simpa [badLength] using hbad
        exact ⟨not_lt.1 (of_decide_eq_false hb.1), not_lt.1 (of_decide_eq_false hb.2)⟩
      exact ⟨hhead, fun _ => ⟨hlen.1, hlen.2, lt_of_lt_of_le (show 2 < 10 by decide) hlen.1⟩⟩
    | cons a' l =>
      obtain ⟨h10, h48, hlt⟩ := hlong (by simp)
      have hsame : lengthByte (a :: a' :: l ++ [b]) = lengthByte (a :: a' :: l) := rfl
      rw [hsame] at hdone ⊢
      simp at hdone hlt
      refine ⟨hhead, fun _ => ⟨h10, h48, ?_⟩⟩
      simp
      omega

theorem State.busOk.startAttempt (h : s.busOk) (ht : s.lbi.tx ≠ .idle) : s.startAttempt.busOk :=
  ⟨h.1.sending (h.1.runs ht) rfl h.1.2.2.1 fun _ => rfl, h.2.same rfl rfl⟩

/-- The LBI after an attempt, with the follow-up telegram where the flag is set. -/
theorem State.busOk.followUp (h : s.busOk) (ht : s.lbi.tx = .sending) (hi : l.inhibit = s.lbi.inhibit)
    (hx : l.rx = s.lbi.rx) (hb : l.rxBytes = s.lbi.rxBytes) :
    ({ s with lbi := l.followUp }).busOk := by
  have hr := h.1.runs (by simp [ht])
  have hcases : l.followUp = { l with earlyPending := false }.beginEarly ∨
      l.followUp = { l with tx := .idle, attempts := 0 } := by
    unfold Lbi.followUp
    split
    · exact .inl rfl
    · exact .inr rfl
  rcases hcases with e | e <;> rw [e]
  · exact ⟨h.1.sending hr hi (Nat.zero_le 3) (fun hc => by cases hc), h.2.same hx hb⟩
  · exact ⟨h.1.sending hr hi (Nat.zero_le 3) (fun hc => by cases hc), h.2.same hx hb⟩

theorem State.busOk.backoff (h : s.busOk) (ht : s.lbi.tx = .sending) (ha : s.lbi.attempts < lossLimit) :
    ({ s with
      lbi :=
        { s.lbi with
          contents := none, idleTime := 0, tx := .backoff, attempts := s.lbi.attempts + 1 } }).busOk :=
  ⟨h.1.sending (h.1.runs (by simp [ht])) rfl ha (fun hc => by cases hc), h.2.same rfl rfl⟩

theorem State.busOk.early (h : s.busOk) : s.early.busOk := by
  unfold State.early
  split
  · next hr =>
    split
    · exact ⟨h.1.sending hr rfl (Nat.zero_le 3) (fun hc => by cases hc), h.2.same rfl rfl⟩
    · exact h.times _ _
    all_goals exact ⟨h.1.sending hr rfl h.1.2.2.1 h.1.2.2.2, h.2.same rfl rfl⟩
  · exact h

theorem State.busOk.lbiCounts (h : s.busOk) : s.lbiCounts.busOk := by
  have hp : (s.lbi.periodTelegram.inhibit = s.lbi.inhibit ∧ s.lbi.periodTelegram.rx = s.lbi.rx ∧
      s.lbi.periodTelegram.rxBytes = s.lbi.rxBytes) ∧ s.lbi.periodTelegram.attempts ≤ 3 ∧
      (s.lbi.periodTelegram.tx = .sending → s.lbi.periodTelegram.contents.isSome) := by
    unfold Lbi.periodTelegram
    cases ht : s.lbi.tx
    · exact ⟨⟨rfl, rfl, rfl⟩, Nat.zero_le 3, fun hc => by cases hc⟩
    · exact ⟨⟨rfl, rfl, rfl⟩, Nat.zero_le 3, fun hc => by simp at hc⟩
    · exact ⟨⟨rfl, rfl, rfl⟩, h.1.2.2.1, fun _ => h.1.2.2.2 ht⟩
    · exact ⟨⟨rfl, rfl, rfl⟩, Nat.zero_le 3, fun hc => by simp at hc⟩
  unfold State.lbiCounts
  cases hr : s.sends
  · exact ⟨h.1.same rfl rfl rfl rfl rfl, h.2.same rfl rfl⟩
  · obtain ⟨⟨hi, hx, hb⟩, ha, hc⟩ := hp
    exact ⟨h.1.sending hr hi ha hc, h.2.same hx hb⟩

end Sides

/-- A change of run state leaves both sides as they may stand; OFFLINE is not entered. -/
theorem State.busOk.changeRun {s : State} (h : s.busOk) (new : RunState)
    (hold : s.rsc.runState ≠ .offline) (hnew : new ≠ .offline) : (s.changeRun new).busOk := by
  unfold State.changeRun
  split
  · exact h
  next hne =>
  simp only [beq_iff_eq] at hne
  obtain ⟨⟨hidle, hinh, hatt, hcon⟩, hrx, hempty, hcol⟩ := h
  refine State.busOk.early ⟨?_, ?_⟩
  · have hin : (s.lbi.onRunState s.rsc.runState new).inhibit = true →
        s.lbi.inhibit = true ∧ s.rsc.runState ≠ .tripped := by
      unfold Lbi.onRunState
      split
      · intro hc; cases hc
      · next hc =>
        intro hi
        have ht := hinh hi
        simp [ht] at hc hne
        exact absurd hc.symm hne
    have hfalse : (s.lbi.onRunState s.rsc.runState new).inhibit = false := by
      by_contra hc
      obtain ⟨hi, hr⟩ := hin (by simpa using hc)
      exact hr (hinh hi)
    have hsame : (s.lbi.onRunState s.rsc.runState new).tx = s.lbi.tx ∧
        (s.lbi.onRunState s.rsc.runState new).attempts = s.lbi.attempts ∧
        (s.lbi.onRunState s.rsc.runState new).earlyPending = s.lbi.earlyPending ∧
        (s.lbi.onRunState s.rsc.runState new).contents = s.lbi.contents := by
      unfold Lbi.onRunState
      split <;> exact ⟨rfl, rfl, rfl, rfl⟩
    obtain ⟨htx, hat, hep, hct⟩ := hsame
    refine ⟨fun hn => ?_, fun hi => ?_, by simpa [hat] using hatt, by simpa [htx, hct] using hcon⟩
    · have hclock : s.sends = false := by
        simp only [State.sends, hfalse, Rsc.onRunState] at hn
        have : (new != RunState.offline) = true := by simpa using hnew
        have hcl : (s.cfg.clock == .crystal) = false := by
          split at hn <;> simpa [this] using hn
        simp [State.sends, hcl]
      simpa [htx, hat, hep] using hidle hclock
    · rw [hfalse] at hi
      cases hi
  · have hsame : (s.lbi.onRunState s.rsc.runState new).rx = s.lbi.rx ∧
        (s.lbi.onRunState s.rsc.runState new).rxBytes = s.lbi.rxBytes := by
      unfold Lbi.onRunState
      split <;> exact ⟨rfl, rfl⟩
    obtain ⟨hx, hb⟩ := hsame
    refine ⟨fun hn => ?_, by simpa [hx, hb] using hempty, by simpa [hx, hb] using hcol⟩
    rw [show State.lbi _ = s.lbi.onRunState s.rsc.runState new from rfl, hx]
    refine hrx ?_
    simp only [State.receives, Rsc.onRunState] at hn ⊢
    split at hn <;> simp_all

end Sys2Proof.Machine

/-! PROOFS. The peer table after a telegram and an ageing (chapter 2): obligation O31, and what keeps the
table as it may stand. -/

namespace Sys2Proof.Machine

/-- The table rises in station number. -/
abbrev Ascending (ps : List PeerEntry) : Prop := ps.Pairwise fun a b => a.number < b.number

/-! ### Writing an entry -/

/-- The entry written stands in the table, and every other number stays as it was. -/
theorem mem_putPeer {e : PeerEntry} {ps : List PeerEntry} (h : Ascending ps) (q : PeerEntry) :
    q ∈ putPeer e ps ↔ q = e ∨ (q ∈ ps ∧ q.number ≠ e.number) := by
  induction ps with
  | nil => simp [putPeer]
  | cons p ps ih =>
    obtain ⟨hp, hps⟩ := List.pairwise_cons.1 h
    unfold putPeer
    split
    · next hlt =>
      have hall : ∀ r ∈ p :: ps, r.number ≠ e.number := by
        intro r hr
        rcases List.mem_cons.1 hr with rfl | hr
        · omega
        · have := hp r hr; omega
      rw [List.mem_cons]
      exact or_congr_right ⟨fun hq => ⟨hq, hall q hq⟩, fun hq => hq.1⟩
    · split
      · next heq =>
        have hall : ∀ r ∈ ps, r.number ≠ e.number := fun r hr => by have := hp r hr; omega
        rw [List.mem_cons, List.mem_cons]
        refine or_congr_right ⟨fun hq => ⟨.inr hq, hall q hq⟩, ?_⟩
        rintro ⟨rfl | hq, hne⟩
        · exact absurd heq.symm hne
        · exact hq
      · next hne =>
        rw [List.mem_cons, List.mem_cons, ih hps]
        constructor
        · rintro (rfl | rfl | ⟨hq, hn⟩)
          · exact .inr ⟨.inl rfl, fun hc => hne hc.symm⟩
          · exact .inl rfl
          · exact .inr ⟨.inr hq, hn⟩
        · rintro (rfl | ⟨rfl | hq, hn⟩)
          · exact .inr (.inl rfl)
          · exact .inl rfl
          · exact .inr (.inr ⟨hq, hn⟩)

theorem ascending_putPeer {e : PeerEntry} {ps : List PeerEntry} (h : Ascending ps) :
    Ascending (putPeer e ps) := by
  induction ps with
  | nil => exact List.pairwise_singleton _ _
  | cons p ps ih =>
    obtain ⟨hp, hps⟩ := List.pairwise_cons.1 h
    unfold putPeer
    split
    · next hlt =>
      refine List.pairwise_cons.2 ⟨fun r hr => ?_, h⟩
      rcases List.mem_cons.1 hr with rfl | hr
      · exact hlt
      · exact hlt.trans (hp r hr)
    · split
      · next heq => exact List.pairwise_cons.2 ⟨fun r hr => heq ▸ hp r hr, hps⟩
      · next hge hne =>
        refine List.pairwise_cons.2 ⟨fun r hr => ?_, ih hps⟩
        rcases (mem_putPeer hps r).1 hr with rfl | ⟨hr, -⟩
        · omega
        · exact hp r hr

theorem hasPeer_iff (n : Nat) (ps : List PeerEntry) :
    hasPeer n ps = true ↔ ∃ p ∈ ps, p.number = n := by
  simp [hasPeer]

/-- A known number keeps the length, an unknown one adds an entry. -/
theorem length_putPeer {e : PeerEntry} {ps : List PeerEntry} (h : Ascending ps) :
    (putPeer e ps).length = ps.length + if hasPeer e.number ps then 0 else 1 := by
  induction ps with
  | nil => rfl
  | cons p ps ih =>
    obtain ⟨hp, hps⟩ := List.pairwise_cons.1 h
    unfold putPeer
    split
    · next hlt =>
      have hno : hasPeer e.number (p :: ps) = false := by
        rw [← Bool.not_eq_true, hasPeer_iff]
        rintro ⟨r, hr, hn⟩
        rcases List.mem_cons.1 hr with rfl | hr
        · omega
        · have := hp r hr; omega
      simp [hno]
    · split
      · next heq => simp [hasPeer, heq]
      · next hne =>
        have : hasPeer e.number (p :: ps) = hasPeer e.number ps := by
          simp [hasPeer, Ne.symm hne]
        rw [this, List.length_cons, ih hps, List.length_cons]
        omega

/-! ### The entry that a full table gives up -/

theorem foldl_max_age (ps : List PeerEntry) (m : Nat) :
    (m ≤ ps.foldl (fun m p => max m p.age) m ∧ ∀ p ∈ ps, p.age ≤ ps.foldl (fun m p => max m p.age) m) ∧
      (ps.foldl (fun m p => max m p.age) m = m ∨
        ∃ p ∈ ps, p.age = ps.foldl (fun m p => max m p.age) m) := by
  induction ps generalizing m with
  | nil => simp
  | cons p ps ih =>
    obtain ⟨⟨hm, hps⟩, hmem⟩ := ih (max m p.age)
    rw [List.foldl_cons]
    refine ⟨⟨(le_max_left _ _).trans hm, fun q hq => ?_⟩, ?_⟩
    · rcases List.mem_cons.1 hq with rfl | hq
      · exact (le_max_right _ _).trans hm
      · exact hps q hq
    · rcases hmem with h | ⟨q, hq, hqa⟩
      · rcases max_choice m p.age with hc | hc
        · exact .inl (h.trans hc)
        · exact .inr ⟨p, List.mem_cons_self, (h.trans hc).symm⟩
      · exact .inr ⟨q, List.mem_cons_of_mem _ hq, hqa⟩

theorem age_le_greatestAge {ps : List PeerEntry} {p : PeerEntry} (h : p ∈ ps) :
    p.age ≤ greatestAge ps := (foldl_max_age ps 0).1.2 p h

/-- The greatest age is that of an entry, or the table is fresh. -/
theorem exists_greatestAge {ps : List PeerEntry} {lF : Nat} (h : lF < greatestAge ps) :
    ∃ p ∈ ps, p.age = greatestAge ps := by
  rcases (foldl_max_age ps 0).2 with h0 | hp
  · exact absurd (h.trans_eq h0) (Nat.not_lt_zero _)
  · exact hp

theorem dropFirstOfAge_sublist (age : Nat) (ps : List PeerEntry) :
    (dropFirstOfAge age ps).Sublist ps := by
  induction ps with
  | nil => exact List.Sublist.refl _
  | cons p ps ih =>
    unfold dropFirstOfAge
    split
    · exact List.sublist_cons_self p ps
    · exact ih.cons_cons p

theorem length_dropFirstOfAge {age : Nat} {ps : List PeerEntry} (h : ∃ p ∈ ps, p.age = age) :
    (dropFirstOfAge age ps).length + 1 = ps.length := by
  induction ps with
  | nil => simp at h
  | cons p ps ih =>
    unfold dropFirstOfAge
    split
    · rfl
    · next hne =>
      obtain ⟨q, hq, ha⟩ := h
      rcases List.mem_cons.1 hq with rfl | hq
      · exact absurd ha hne
      · simpa using ih ⟨q, hq, ha⟩

/-- Of the entries of an age the one with the least number goes. -/
theorem mem_dropFirstOfAge {ps : List PeerEntry} (h : Ascending ps) {d : PeerEntry} (hd : d ∈ ps)
    (hleast : ∀ p ∈ ps, p.age = d.age → d.number ≤ p.number) (q : PeerEntry) :
    q ∈ dropFirstOfAge d.age ps ↔ q ∈ ps ∧ q ≠ d := by
  induction ps with
  | nil => simp at hd
  | cons p ps ih =>
    obtain ⟨hp, hps⟩ := List.pairwise_cons.1 h
    unfold dropFirstOfAge
    split
    · next ha =>
      have hpd : p = d := by
        rcases List.mem_cons.1 hd with rfl | hd
        · rfl
        · have := hleast p List.mem_cons_self ha
          have := hp d hd
          omega
      subst hpd
      rw [List.mem_cons]
      constructor
      · refine fun hq => ⟨.inr hq, fun hc => ?_⟩
        exact absurd (hp q hq) (by rw [hc]; exact lt_irrefl _)
      · rintro ⟨rfl | hq, hne⟩
        · exact absurd rfl hne
        · exact hq
    · next ha =>
      have hne : p ≠ d := fun hc => ha (congrArg PeerEntry.age hc)
      have hd' : d ∈ ps := (List.mem_cons.1 hd).resolve_left fun hc => hne hc.symm
      rw [List.mem_cons, List.mem_cons, ih hps hd' fun r hr => hleast r (List.mem_cons_of_mem _ hr)]
      constructor
      · rintro (rfl | ⟨hq, hqd⟩)
        · exact ⟨.inl rfl, hne⟩
        · exact ⟨.inr hq, hqd⟩
      · rintro ⟨rfl | hq, hqd⟩
        · exact .inl rfl
        · exact .inr ⟨hq, hqd⟩

/-! ### The table after a telegram and an ageing -/

theorem mem_agePeers {ps : List PeerEntry} (h : ∀ p ∈ ps, p.age < 64) (q : PeerEntry) :
    q ∈ agePeers ps ↔ ∃ p ∈ ps, p.age + 1 < 64 ∧ q = { p with age := p.age + 1 } := by
  have hsat : ∀ p ∈ ps, satNat 255 (p.age + 1) = p.age + 1 := fun p hp => by
    have := h p hp
    rw [satNat_eq_min]
    omega
  simp only [agePeers, List.mem_filter, List.mem_map, decide_eq_true_eq]
  constructor
  · rintro ⟨⟨p, hp, rfl⟩, hlt⟩
    rw [hsat p hp] at hlt ⊢
    exact ⟨p, hp, hlt, rfl⟩
  · rintro ⟨p, hp, hlt, rfl⟩
    exact ⟨⟨p, hp, by rw [hsat p hp]⟩, hlt⟩

theorem ascending_agePeers {ps : List PeerEntry} (h : Ascending ps) : Ascending (agePeers ps) :=
  List.Pairwise.sublist List.filter_sublist (List.pairwise_map.2 h)

/-- Every entry of a table that was written is the new one or one that stood before; the table stays
ascending and within its limit. -/
theorem writePeer_eq_some {lF : Nat} {e : PeerEntry} {ps qs : List PeerEntry} (h : Ascending ps)
    (hl : ps.length ≤ 16) (hw : writePeer lF e ps = some qs) :
    Ascending qs ∧ qs.length ≤ 16 ∧ ∀ q ∈ qs, q = e ∨ q ∈ ps := by
  unfold writePeer at hw
  split at hw
  · next hroom =>
    cases hw
    refine ⟨ascending_putPeer h, ?_, fun q hq => ((mem_putPeer h q).1 hq).imp_right And.left⟩
    rw [length_putPeer h]
    simp only [Bool.or_eq_true, decide_eq_true_eq] at hroom
    split
    · exact hl
    · next hno => exact hroom.resolve_left hno
  · split at hw
    · next hstale =>
      cases hw
      have hdrop : Ascending (dropFirstOfAge (greatestAge ps) ps) :=
        h.sublist (dropFirstOfAge_sublist _ _)
      have hlen := length_dropFirstOfAge (exists_greatestAge hstale)
      refine ⟨ascending_putPeer hdrop, ?_, fun q hq => ?_⟩
      · rw [length_putPeer hdrop]
        split <;> omega
      · exact ((mem_putPeer hdrop q).1 hq).imp_right fun hq =>
          (dropFirstOfAge_sublist _ _).subset hq.1
    · cases hw

theorem State.peersOk.age {s : State} (h : s.peersOk) :
    ({ s with peers := agePeers s.peers }).peersOk := by
  obtain ⟨hload, hasc, hlen, hall, hoff⟩ := h
  refine ⟨hload, ascending_agePeers hasc, ?_, fun q hq => ?_, fun ho => ?_⟩
  · exact (List.length_filter_le _ _).trans (by simpa using hlen)
  · obtain ⟨p, hp, hlt, rfl⟩ := (mem_agePeers (fun p hp => (hall p hp).2) q).1 hq
    exact ⟨(hall p hp).1, hlt⟩
  · rw [show agePeers s.peers = agePeers [] from congrArg agePeers (hoff ho)]
    rfl

theorem State.peersOk.write {s : State} {lF : Nat} {e : PeerEntry} {ps : List PeerEntry}
    (h : s.peersOk) (ho : s.rsc.runState ≠ .offline) (hn : e.number ≠ s.cfg.image.number)
    (ha : e.age = 0) (hw : writePeer lF e s.peers = some ps) : ({ s with peers := ps }).peersOk := by
  obtain ⟨hload, hasc, hlen, hall, -⟩ := h
  obtain ⟨hasc', hlen', hmem⟩ := writePeer_eq_some hasc hlen hw
  refine ⟨hload, hasc', hlen', fun q hq => ?_, fun hoff => absurd hoff ho⟩
  rcases hmem q hq with rfl | hq
  · exact ⟨hn, by omega⟩
  · exact hall q hq

/-- Settles O31: each clause is the law of the operation it speaks of. -/
theorem peerTableWritten : Obligations.PeerTableWritten := by
  refine ⟨fun lF e ps h hl => ⟨fun hroom => ?_, fun hnew hfull hfresh => ?_,
      fun hnew hfull d hd hstale hmax hleast => ?_, fun hage q => mem_agePeers hage q⟩,
    branchCompatible_iff, fun s => ?_, fun s t hs ht => ?_⟩
  · refine ⟨putPeer e ps, if_pos ?_, ascending_putPeer h, mem_putPeer h⟩
    rcases hroom with hp | hlt
    · simp [(hasPeer_iff _ _).2 hp]
    · simp [peerLimit, hlt]
  · have hno : hasPeer e.number ps = false := by
      rw [← Bool.not_eq_true, hasPeer_iff]
      exact fun ⟨p, hp, hn⟩ => hnew p hp hn
    have hge : ¬lF < greatestAge ps := fun hlt => by
      obtain ⟨p, hp, ha⟩ := exists_greatestAge hlt
      have := hfresh p hp
      omega
    simp [writePeer, hno, hfull, peerLimit, hge]
  · have hno : hasPeer e.number ps = false := by
      rw [← Bool.not_eq_true, hasPeer_iff]
      exact fun ⟨p, hp, hn⟩ => hnew p hp hn
    have hge : greatestAge ps = d.age := by
      have hle := age_le_greatestAge hd
      obtain ⟨p, hp, ha⟩ := exists_greatestAge (hstale.trans_le hle)
      have := hmax p hp
      omega
    have hdrop : Ascending (dropFirstOfAge d.age ps) := h.sublist (dropFirstOfAge_sublist _ _)
    have hmem := mem_dropFirstOfAge h hd hleast
    have hnodrop : hasPeer e.number (dropFirstOfAge d.age ps) = false := by
      rw [← Bool.not_eq_true, hasPeer_iff]
      exact fun ⟨p, hp, hn⟩ => hnew p ((hmem p).1 hp).1 hn
    refine ⟨putPeer e (dropFirstOfAge d.age ps), ?_, ?_, ascending_putPeer hdrop, fun q => ?_⟩
    · simp [writePeer, hno, hfull, peerLimit, hge, hstale]
    · have := length_dropFirstOfAge (age := d.age) ⟨d, hd, rfl⟩
      rw [length_putPeer hdrop, hnodrop]
      simp
      omega
    · rw [mem_putPeer hdrop, hmem]
      constructor
      · exact Or.imp_right And.left
      · exact Or.imp_right fun hq => ⟨hq, hnew q hq.1⟩
  · exact ⟨s.downstream_sublist, s.upstream_sublist, s.mem_downstream, s.mem_upstream,
      s.supplyBin_eq_some_iff⟩
  · intro read unaltered
    have hview : ∀ before after : List PeerEntry, Ascending before → Ascending after →
        (before.map (PeerEntry.view (levelReadOf s t)) = after.map (PeerEntry.view (levelReadOf s t)) ↔
          unaltered before after) := by
      intro before after hb ha
      rw [map_view_eq_iff _ _ _ hb ha]
      refine and_congr_right fun _ => and_congr_right fun _ => ?_
      refine forall₂_congr fun e _ => forall₂_congr fun f _ => ?_
      refine forall_congr' fun hn => ?_
      rw [PeerEntry.view_eq_iff, mem_levelReadOf]
      exact ⟨fun hv => hv.2, fun hv => ⟨hn, hv⟩⟩
    rw [neighboursChanged_eq_false_iff,
      hview _ _ (hs.sublist s.downstream_sublist) (ht.sublist t.downstream_sublist),
      hview _ _ (hs.sublist s.upstream_sublist) (ht.sublist t.upstream_sublist)]

end Sys2Proof.Machine

/-! PROOFS. What every step keeps. An invariant that the operations which commands are made of keep is kept
by every command and by a bit time; here that is shown once for all such invariants. A command needs only
the operations of the parts that it may touch, so what a command leaves alone follows in the same way. -/

namespace Sys2Proof.Machine

/-- `h` says of the causes of the MVE and the CWU what `k` says. -/
structure HoldSet.SameOwners (k h : HoldSet) : Prop where
  move : h.move = k.move
  moveFault : h.moveFault = k.moveFault
  tramp : h.tramp = k.tramp

theorem State.setHold_inGroup (s : State) (h : HoldSet) (hg : s.rsc.runState.inGroup = true) :
    (s.setHold h).rsc.runState.inGroup = true := by
  unfold State.setHold
  split
  · exact hg
  · rw [State.early_rsc, State.changeRun_runState]
    exact RunState.withHold_inGroup _ h hg

theorem Lbi.SameReception.followUp {l m : Lbi} (h : l.SameReception m) : l.SameReception m.followUp := by
  unfold Lbi.followUp
  split <;> exact h.trans ⟨rfl, rfl, rfl, rfl, rfl⟩

/-- What a command may touch beside what every command may: runs, holds, moves and the sending side. -/
inductive Part where
  /-- The queue, timers and the watch, as a bit time passes. -/
  | time
  | reset
  | load
  | crystal
  /-- The order echo, the cap, g_set and the wear accounts, as an order may. -/
  | order
  /-- A trip is cleared. -/
  | clear
  /-- Pending events are removed. -/
  | acknowledge
  /-- The calibration, as samples make contact. -/
  | sample
  | table
  | reception
  | measure
  deriving DecidableEq

/-- The parts that an order may touch. -/
def Order.touches : Order → List Part
  | .clearTrip => [.order, .measure, .reception, .clear]
  | .ackEvents _ => [.order, .measure, .reception, .acknowledge]
  | .startLine | .stopLine | .hold | .release | .setGap _ | .setCap _ | .calibrate | .moveRetry
  | .moveDiscard | .restoreScale | .readCal _ | .linerChanged => [.order, .measure, .reception]

/-- The parts that a command may touch. -/
def partsTouched : Instr → List Part
  | .powerOnReset | .pinReset | .resetAsserted => [.reset]
  | .imageLoadEnd _ => [.load]
  | .crystalFailure => [.crystal]
  | .periodExpiry => [.table, .reception, .measure]
  | .idleGap | .invalidTelegramDiscard => [.reception]
  | .stateTelegram _ _ => [.table, .reception]
  | .startLine _ | .stopLine _ | .hold _ | .release _ | .setGap _ _ | .setCap _ _ | .calibrate _
  | .moveRetry _ | .moveDiscard _ | .restoreScale _ | .readCal _ _ | .linerChanged _ =>
    [.order, .measure, .reception]
  | .clearTrip _ => [.order, .measure, .reception, .clear]
  | .ackEvents _ _ => [.order, .measure, .reception, .acknowledge]
  | .unknownKind _ _ _ => [.order, .measure, .reception, .clear, .acknowledge]
  | .sampleEvent _ _ => [.sample, .measure]
  | .scalePulse | .trampActiveEdge | .trampInactiveEdge | .pullcordActiveEdge | .pullcordInactiveEdge
  | .runFbActiveEdge | .runFbInactiveEdge => [.measure]
  | .receivedByte _ _ => [.order, .measure, .reception, .clear, .acknowledge, .table]
  | .attemptStart | .attemptSucceeds | .attemptLost | .backoffEnd | .startLimitExpiry | .spinUpExpiry
  | .interlockExpiry | .drainExpiry | .settleTimerExpiry | .recordTimerExpiry | .remainingTimeExpiry
  | .secondsTimerExpiry => []

/-- The invariant `I` is kept by resets, loads and the passing of time, and by the updates that are no change
of run state or hold set and no move, where they touch only the parts that `A` allows. An update of the LBI or
of the peer table needs to be kept only where it leaves the bus sides or the table as they may stand. -/
structure KeptAtRest (A : Part → Prop) (I : State → Prop) : Prop where
  powerOn : ∀ {s : State}, A .reset → I s → I s.powerOn
  pinned : ∀ {s : State}, A .reset → I s → I s.pinned
  assertReset : ∀ {s : State}, A .reset → I s → I s.assertReset
  watchOver : ∀ {s : State}, A .time → I s → I { s with cfg := s.cfg.tick }
  advance : ∀ {s : State}, A .time → I s → I s.advance
  queue : ∀ {s : State} {q : List Instr}, A .time → I s → I { s with pending := q }
  loadValid : ∀ {s : State} {bytes : List Byte} {r : Image × List MoveRecord}, A .load → I s →
    s.cfg.validity = .loading → readImage bytes = some r → I (s.loadValid r.1 r.2)
  loadInvalid : ∀ {s : State}, A .load → I s → s.cfg.validity = .loading → I s.loadInvalid
  crystalFails : ∀ {s : State}, A .crystal → I s → I s.crystalFails
  raise : ∀ {s : State} (k : EventKind), I s → I (s.raise k)
  own : ∀ {s : State} {n : Nat} {p : Pins}, I s → I { s with draws := n, pins := p }
  echo : ∀ {s : State} {o : Option Echo}, A .order → I s → I { s with echo := o }
  forget : ∀ {s : State} {v : Evu}, A .acknowledge → I s → I { s with evu := v }
  lbi : ∀ {s : State} {l : Lbi}, I s → A .reception ∨ s.lbi.SameReception l →
    (s.busOk → ({ s with lbi := l }).busOk) → I { s with lbi := l }
  peers : ∀ {s : State} {p : List PeerEntry}, A .table → I s →
    (s.peersOk → ({ s with peers := p }).peersOk) → I { s with peers := p }
  mfe : ∀ {s : State} {f : Mfe}, A .measure → I s →
    (s.mfe.window.length = 16 → f.window.length = 16) → I { s with mfe := f }
  selection : ∀ {s : State} (n : Nat), A .order → I s → I { s with cwu := (s.cwu.select n).1 }
  newLiner : ∀ {s : State}, A .order → I s → I { s with cwu := s.cwu.newLiner }
  cap : ∀ {s : State} (n : Nat), A .order → I s → I { s with ale := { s.ale with cap := satNat 1000 n } }
  alePeriod : ∀ {s : State}, I s → I s.alePeriod
  writeGap : ∀ {s : State} (n : Nat), A .order → I s →
    I (s.writeGap (clampNat s.cfg.image.gMin s.cfg.image.gMax n))
  duplicate : ∀ {s : State}, A .reception → I s → s.rsc.runState ≠ .offline → I s.duplicate

/-- The invariant `I` is kept by every operation that commands are made of, where they touch only the parts
that `A` allows. -/
structure Kept (A : Part → Prop) (I : State → Prop) : Prop extends KeptAtRest A I where
  cwu : ∀ {s : State} {d : Cwu}, I s → s.cwu.SameAccount d → I { s with cwu := d }
  timers : ∀ {s : State} {a b c d : Timer}, I s → s.rsc.runState.inGroup = true →
    I { s with rsc := { s.rsc with startTimer := a, spinTimer := b, interlockTimer := c, drainTimer := d } }
  trip : ∀ {s : State} (c : TripCause), I s → I (s.trip c)
  setHold : ∀ {s : State} {h : HoldSet}, I s → s.rsc.hold.SameOwners h → I (s.setHold h)
  startClearing : ∀ {s : State}, I s → s.rsc.runState.inGroup = true → I s.startClearing
  reduceTest : ∀ {s : State}, I s → I s.reduceTest
  stopTest : ∀ {s : State}, I s → I s.stopTest
  request : ∀ {s : State} (r : Requester), I s → I (s.request r)
  gapNotice : ∀ {s : State}, A .sample → I s → I s.gapNotice
  loadNotice : ∀ {s : State}, A .sample → I s → I s.loadNotice
  settleExpired : ∀ {s : State}, I s → I s.settleExpired
  recordExpired : ∀ {s : State}, I s → I s.recordExpired
  remainingExpired : ∀ {s : State}, I s → I s.remainingExpired
  retry : ∀ {s : State} {c : Context}, I s → s.retryTaken = true → s.mve.parked = some c → I (s.retry c)
  discardFault : ∀ {s : State}, I s → I s.discardFault
  enterGroup : ∀ {s : State}, I s → s.rsc.runState = .starting → I s.enterGroup
  spin : ∀ {s : State}, I s → s.rsc.runState = .starting →
    I { s with
        rsc := { s.rsc with startTimer := .stopped, subPhase := some .spinUp, spinTimer := .running 0 } }
  start : ∀ {s : State}, I s → s.rsc.runState = .ready →
    I { s.changeRun .starting with
        rsc :=
          { (s.changeRun .starting).rsc with
            subPhase := some .waitDownstream, startTimer := .running 0 } }
  stopStarting : ∀ {s : State}, I s → s.rsc.runState = .starting → I s.stopStarting
  stopTurning : ∀ {s : State}, I s → s.rsc.runState.isTurning = true →
    I { s.changeRun .stopping with
        rsc := { (s.changeRun .stopping).rsc with interlockTimer := .stopped } }
  leaveGroup : ∀ {s : State}, I s → s.rsc.runState.inGroup = true → I s.leaveGroup
  clearTrip : ∀ {s : State}, A .clear → I s → s.rsc.runState = .tripped → s.cfg.clock = .crystal →
    I s.clearTripTaken
  startLimit : ∀ {s : State}, I s → s.rsc.runState = .starting →
    I { s.changeRun .ready with
        rsc := { (s.changeRun .ready).rsc with subPhase := none, startTimer := .stopped } }

namespace Kept

variable {A : Part → Prop} {I : State → Prop} (K : Kept A I) {s : State}
include K

theorem drive (h : I s) : I s.drive := K.own h

theorem drawn (h : I s) : I s.drawn := K.own h

theorem setEcho (t k : Byte) (r : OrderResult) (ho : A .order) (h : I s) : I (s.setEcho t k r) :=
  K.echo ho h

theorem tripIfSelected (k : EventKind) (h : I s) : I (s.tripIfSelected k) := by
  unfold State.tripIfSelected
  split
  · exact K.trip _ h
  · exact h

theorem changeHold {h : HoldSet} (hs : I s) (hk : s.rsc.hold.SameOwners h) : I (s.changeHold h) := by
  rcases s.changeHold_cases h with e | e <;> rw [e]
  · exact K.setHold hs hk
  · exact K.reduceTest (K.setHold hs hk)

theorem requestChain (r : Requester) (h : I s) : I (s.requestChain r) := by
  unfold State.requestChain
  split
  · exact K.request r h
  · exact h

/-! ### The run-state controller -/

theorem evaluateInterlock (h : I s) (hg : s.rsc.runState.inGroup = true) : I s.evaluateInterlock :=
  K.timers h hg

theorem evaluateDrain (h : I s) : I s.evaluateDrain := by
  unfold State.evaluateDrain
  split
  · next hs =>
    rw [beq_iff_eq] at hs
    exact K.timers h (by rw [hs]; rfl)
  · exact h

theorem evaluateProceed (h : I s) : I s.evaluateProceed := by
  unfold State.evaluateProceed State.proceed
  split
  · next hc =>
    have hs : s.rsc.runState = .starting := by
      simp only [Bool.and_eq_true, beq_iff_eq] at hc
      exact hc.1.1
    dsimp only
    split
    · exact K.enterGroup (K.spin h hs) hs
    · exact K.spin h hs
  · exact h

theorem evaluateLine (h : I s) : I s.evaluateLine := by
  unfold State.evaluateLine
  split
  · next hg =>
    exact K.evaluateDrain (K.evaluateInterlock (K.setHold h ⟨rfl, rfl, rfl⟩) (s.setHold_inGroup _ hg))
  · exact K.evaluateProceed h

theorem afterTable (s : State) {t : State} (h : I t) : I (s.afterTable t) := by
  unfold State.afterTable State.neighbourNotice
  split
  · exact K.stopTest (K.evaluateLine h)
  · exact h

theorem afterQA (s : State) {t : State} (h : I t) : I (s.afterQA t) := by
  unfold State.afterQA
  split
  · exact h
  · exact K.reduceTest h

/-! ### The period expiry -/

theorem formQ (hm : A .measure) (h : I s) : I s.formQ := by
  unfold State.formQ
  split <;> exact K.mfe hm h id

theorem stepWatchdog (hm : A .measure) (h : I s) : I s.stepWatchdog := by
  unfold State.stepWatchdog
  split
  · exact K.raise (s := { s with mfe := { s.mfe with watchdog := 0, source := .estimate } })
      .scaleLost (K.mfe hm h id)
  · exact K.mfe hm h id

theorem mfePeriod (hm : A .measure) (h : I s) : I s.mfePeriod := by
  have h1 : I { s with mfe := s.mfe.pushWindow } :=
    K.mfe hm h fun hw => by simp [Mfe.pushWindow, hw]
  unfold State.mfePeriod
  dsimp only
  split
  · exact K.tripIfSelected _ (K.formQ hm (K.stepWatchdog hm h1))
  · exact K.formQ hm (K.stepWatchdog hm h1)

theorem lbiPeriod (hr : A .reception) (h : I s) : I s.lbiPeriod := by
  have h1 : I s.lbiCounts := K.lbi h (.inl hr) State.busOk.lbiCounts
  unfold State.lbiPeriod
  split
  · exact K.tripIfSelected _ (K.raise _ h1)
  · exact h1

theorem expiryPart (ht : A .table) (hr : A .reception) (hm : A .measure) (part : ExpiryPart) (h : I s) :
    I (s.expiryPart part) := by
  cases part with
  | lbi => exact K.lbiPeriod hr h
  | ageing => exact K.afterTable s (K.peers ht h State.peersOk.age)
  | measure => exact K.mfePeriod hm h
  | allowance => exact K.alePeriod h
  | runState => exact K.evaluateLine h

omit K in
/-- An operation that keeps `I` keeps it along a list of operands. -/
theorem foldl {α : Type} {f : State → α → State} (hf : ∀ {s : State} (a : α), I s → I (f s a))
    (l : List α) (h : I s) : I (l.foldl f s) := by
  induction l generalizing s with
  | nil => exact h
  | cons a l ih => exact ih (hf a h)

theorem periodExpiry (ht : A .table) (hr : A .reception) (hm : A .measure) (h : I s) :
    I s.periodExpiry := by
  unfold State.periodExpiry
  split
  · exact K.reduceTest (foldl (K.expiryPart ht hr hm) _
      (K.lbi (K.drawn h) (.inl hr) (State.busOk.times _ _)))
  · exact h

/-! ### The bus -/

theorem tookTelegram (hr : A .reception) (h : I s) : I s.tookTelegram :=
  K.lbi h (.inl hr) State.busOk.tookTelegram

theorem heard (hr : A .reception) (h : I s) : I s.heard := K.lbi h (.inl hr) State.busOk.heard

theorem attemptStart (h : I s) : I s.attemptStart := by
  unfold State.attemptStart
  split
  · next ht => exact K.lbi h (.inr ⟨rfl, rfl, rfl, rfl, rfl⟩) fun hb => hb.startAttempt (by simp [ht])
  all_goals exact h

theorem backoffEnd (h : I s) : I s.backoffEnd := by
  unfold State.backoffEnd
  split
  · next ht => exact K.lbi h (.inr ⟨rfl, rfl, rfl, rfl, rfl⟩) fun hb => hb.startAttempt (by simp [ht])
  all_goals exact h

theorem attemptSucceeds (h : I s) : I s.attemptSucceeds := by
  unfold State.attemptSucceeds
  split
  · next ht => exact K.lbi h (.inr (.followUp ⟨rfl, rfl, rfl, rfl, rfl⟩)) fun hb => hb.followUp ht rfl rfl rfl
  all_goals exact h

theorem attemptLost (h : I s) : I s.attemptLost := by
  unfold State.attemptLost
  split
  · next ht =>
    dsimp only
    split
    · next ha => exact K.lbi h (.inr ⟨rfl, rfl, rfl, rfl, rfl⟩) fun hb => hb.backoff ht ha
    · exact K.raise (s := { s with lbi := Lbi.followUp _ }) _
        (K.lbi h (.inr (.followUp ⟨rfl, rfl, rfl, rfl, rfl⟩))
          fun hb => hb.followUp ht rfl rfl rfl)
  all_goals exact h

theorem idleGap (hrx : A .reception) (h : I s) : I s.idleGap := by
  unfold State.idleGap
  split
  · next hr =>
    split
    · exact K.lbi h (.inl hrx) fun hb => hb.idleGap hr
    · exact K.lbi h (.inl hrx) fun hb => hb.idleGap hr
    · exact h
  · exact h

theorem discardTelegram (hr : A .reception) (h : I s) : I s.discardTelegram := by
  unfold State.discardTelegram
  split
  · exact K.tookTelegram hr h
  · exact h

/-- The table takes an entry of another station. -/
theorem takePeer {e : PeerEntry} (ht : A .table) (h : I s) (ho : s.rsc.runState ≠ .offline)
    (hn : e.number ≠ s.cfg.image.number) (ha : e.age = 0) : I (s.takePeer e) := by
  unfold State.takePeer
  split
  · next hw => exact K.afterQA s (K.afterTable s (K.peers ht h fun hp => hp.write ho hn ha hw))
  · exact K.raise _ h

end Kept

theorem StateTelegram.entry_eq_some {t : StateTelegram} {e : PeerEntry} (h : StateTelegram.entry t = some e) :
    e.number = t.source.toNat ∧ e.age = 0 := by
  simp only [StateTelegram.entry, Option.bind_eq_bind, Option.bind_eq_some_iff] at h
  obtain ⟨role, -, runState, -, he⟩ := h
  cases he
  exact ⟨rfl, rfl⟩

namespace Kept

variable {A : Part → Prop} {I : State → Prop} (K : Kept A I) {s : State}
include K

theorem takeState (own : Bool) (t : StateTelegram) (ht : A .table) (hr : A .reception) (h : I s)
    (ho : s.rsc.runState ≠ .offline) : I (s.takeState own t) := by
  unfold State.takeState
  split
  · split
    · exact h
    · exact K.duplicate hr (K.heard hr h) ho
  · next hn =>
    unfold State.foreign
    split
    · split
      · next he =>
        obtain ⟨hnum, hage⟩ := StateTelegram.entry_eq_some he
        exact K.takePeer ht (K.heard hr h) ho (hnum ▸ hn) hage
      · exact K.heard hr h
    · exact K.heard hr h

end Kept

theorem State.runState_of_receives {s : State} (h : s.receives = true) :
    s.rsc.runState ≠ .offline := by
  simp only [State.receives, Bool.and_eq_true, bne_iff_ne] at h
  exact h.1

theorem State.clock_of_receives {s : State} (h : s.receives = true) : s.cfg.clock = .crystal := by
  simp only [State.receives, Bool.and_eq_true, beq_iff_eq] at h
  exact h.2

namespace Kept

variable {A : Part → Prop} {I : State → Prop} (K : Kept A I) {s : State}
include K

theorem stateTelegram (own : Bool) (t : StateTelegram) (ht : A .table) (hx : A .reception) (h : I s) : I (s.stateTelegram own t) := by
  unfold State.stateTelegram
  split
  · next hr => exact K.takeState own t ht hx (K.tookTelegram hx h) (State.runState_of_receives hr)
  · exact h

/-! ### Orders -/

theorem orderStartLine (h : I s) : I s.orderStartLine.1 := by
  unfold State.orderStartLine
  split
  · next hr => exact K.evaluateProceed (K.start h (by simpa using hr))
  · exact h

theorem orderStopLine (h : I s) : I s.orderStopLine.1 := by
  have hturn (ht : s.rsc.runState.isTurning = true) : I s.stopRunning :=
    K.afterQA s (K.evaluateDrain (K.stopTurning h ht))
  unfold State.orderStopLine State.stopLineTaken
  split
  · split
    · next hr => exact K.stopStarting h hr
    · next hr => exact hturn (by simp [hr, RunState.isTurning])
    · next hr => exact hturn (by simp [hr, RunState.isTurning])
    all_goals exact h
  · exact h

theorem orderSetGap (n : Nat) (ho : A .order) (h : I s) : I (s.orderSetGap n).1 := by
  unfold State.orderSetGap
  split
  · dsimp only
    split
    · exact K.request _ (K.writeGap n ho h)
    · exact K.writeGap n ho h
  · exact h

theorem orderMoveRetry (h : I s) : I s.orderMoveRetry.1 := by
  unfold State.orderMoveRetry
  split
  · next hp =>
    split
    · next ht => exact K.retry h ht hp
    · exact h
  · exact h

theorem orderRestoreScale (hm : A .measure) (h : I s) : I s.orderRestoreScale.1 := by
  have h1 : I s.restoreScale := K.formQ hm (K.mfe hm h id)
  unfold State.orderRestoreScale
  split
  · dsimp only
    split
    · exact h1
    · exact K.reduceTest (K.evaluateDrain h1)
  · exact h

/-- Whatever an owner does with an order, which is received on the crystal alone, keeps `I`. -/
theorem give (o : Order) (hA : ∀ p ∈ o.touches, A p) (h : I s) (hx : s.cfg.clock = .crystal) :
    I (s.give o).1 := by
  have hif : ∀ {b : Bool} {t : State} {r q : OrderResult}, I t →
      I (if b then (t, r) else (s, q)).1 := fun {b} _ _ _ ht => by
    cases b
    · exact h
    · exact ht
  cases o with
  | startLine => exact K.orderStartLine h
  | stopLine => exact K.orderStopLine h
  | hold => exact hif (K.changeHold h ⟨rfl, rfl, rfl⟩)
  | release => exact K.changeHold h ⟨rfl, rfl, rfl⟩
  | clearTrip =>
    unfold State.give State.orderClearTrip
    dsimp only
    split
    · next hc =>
      simp only [Bool.and_eq_true, beq_iff_eq] at hc
      exact K.clearTrip (hA _ (by simp [Order.touches])) h hc.1 hx
    · exact h
  | setGap n => exact K.orderSetGap n (hA _ (by simp [Order.touches])) h
  | setCap n => exact hif (K.cap n (hA _ (by simp [Order.touches])) h)
  | calibrate =>
    unfold State.give State.orderCalibrate
    dsimp only
    split
    · exact hif (K.request _ h)
    · exact h
  | moveRetry => exact K.orderMoveRetry h
  | moveDiscard => exact hif (K.discardFault h)
  | restoreScale => exact K.orderRestoreScale (hA _ (by simp [Order.touches])) h
  | readCal n => exact hif (K.selection n (hA _ (by simp [Order.touches])) h)
  | linerChanged =>
    unfold State.give State.orderLinerChanged
    dsimp only
    split
    · split
      · exact h
      · exact K.newLiner (hA _ (by simp [Order.touches])) h
    · exact h
  | ackEvents kinds => exact K.forget (hA _ (by simp [Order.touches])) h

theorem answer {head : OrderHead} {kind : Byte} {act : State → Answered} (ho : A .order)
    (ha : ∀ {t : State}, I t → t.cfg.clock = .crystal → I (act t).1) (h : I s)
    (hx : s.cfg.clock = .crystal) : I (s.answer head kind act) := by
  unfold State.answer
  split
  · split
    · exact K.setEcho _ _ _ ho (ha h hx)
    · exact K.setEcho _ _ _ ho h
  · exact h

theorem answerWire (o : OrderTelegram) (hA : ∀ q : Order, ∀ p ∈ q.touches, A p) (h : I s)
    (hx : s.cfg.clock = .crystal) : I (s.answerWire o) := by
  have ho : A .order := hA .hold _ (by simp [Order.touches])
  unfold State.answerWire
  split
  · exact K.answer ho (K.give _ (hA _)) h hx
  · exact K.answer ho (fun ht _ => ht) h hx

theorem order {f : State → State} (hA : A .reception)
    (hf : ∀ {t : State}, I t → t.cfg.clock = .crystal → I (f t)) (h : I s) : I (s.order f) := by
  unfold State.order
  split
  · next hr => exact hf (K.heard hA (K.tookTelegram hA h)) (State.clock_of_receives hr)
  · exact h

/-! ### Received bytes -/

theorem completeTelegram (bytes : List Byte) (hA : ∀ q : Order, ∀ p ∈ q.touches, A p) (ht : A .table)
    (h : I s) (hr : s.receives = true) : I (s.completeTelegram bytes) := by
  have hx : A .reception := hA .hold _ (by simp [Order.touches])
  unfold State.completeTelegram
  split
  · exact K.tookTelegram hx h
  · exact K.takeState _ _ ht hx (K.tookTelegram hx h) (State.runState_of_receives hr)
  · exact K.answerWire _ hA (K.heard hx (K.tookTelegram hx h)) (State.clock_of_receives hr)

theorem collectByte (byte : Byte) (hA : ∀ q : Order, ∀ p ∈ q.touches, A p) (ht : A .table) (h : I s)
    (hr : s.receives = true) (hx : s.lbi.rx = .collect) : I (s.collectByte byte) := by
  have hrx : A .reception := hA .hold _ (by simp [Order.touches])
  unfold State.collectByte
  dsimp only
  split
  · exact K.lbi h (.inl hrx) State.busOk.hunt
  · next hbad =>
    split
    · exact K.completeTelegram _ hA ht h hr
    · next hdone => exact K.lbi h (.inl hrx) fun hb => hb.store hr hx byte (by simpa using hbad) hdone

theorem receiveByte (byte : Byte) (err : Bool) (hA : ∀ q : Order, ∀ p ∈ q.touches, A p) (ht : A .table)
    (h : I s) (hr : s.receives = true) : I (s.receiveByte byte err) := by
  have hrx : A .reception := hA .hold _ (by simp [Order.touches])
  unfold State.receiveByte
  split
  · exact h
  · split
    · next hd =>
      simp only [Bool.and_eq_true, beq_iff_eq] at hd
      rw [hd.2]
      exact K.lbi h (.inl hrx) fun hb => hb.arm hr _
    · exact K.lbi h (.inl hrx) State.busOk.hunt
  · next hx =>
    split
    · exact K.lbi h (.inl hrx) State.busOk.hunt
    · exact K.collectByte byte hA ht h hr hx

theorem mediumByte (byte : Byte) (err : Bool) (hA : ∀ q : Order, ∀ p ∈ q.touches, A p) (ht : A .table)
    (h : I s) : I (s.mediumByte byte err) := by
  have h1 : I { s with lbi := { s.lbi with idleTime := 0 } } :=
    K.lbi h (.inr ⟨rfl, rfl, rfl, rfl, rfl⟩) (State.busOk.times _ _)
  unfold State.mediumByte
  split
  · exact h
  · dsimp only
    split
    · next hr => exact K.receiveByte byte err hA ht h1 hr
    · exact h1

/-! ### Samples and edges -/

theorem act (hs : A .sample) (a : SampleAct) (h : I s) : I (s.act a) := by
  cases a with
  | selected k => exact K.tripIfSelected k h
  | overload =>
    have h1 : I (s.changeHold { s.rsc.hold with overload := s.mfe.overload }) :=
      K.changeHold h ⟨rfl, rfl, rfl⟩
    unfold State.act State.overloadNotice
    dsimp only
    split
    · exact K.requestChain _ h1
    · exact h1
  | levelHigh => exact K.changeHold h ⟨rfl, rfl, rfl⟩
  | load => exact K.loadNotice hs h
  | gap => exact K.gapNotice hs h

theorem takeActs (hs : A .sample) (acts : List SampleAct) (h : I s) : I (s.takeActs acts) := by
  obtain ⟨order, -, e | e⟩ := s.takeActs_cases acts <;> rw [e]
  · exact foldl (K.act hs) _ h
  · exact foldl (K.act hs) _ (K.drawn h)

theorem loadSample (n : Nat) (hs : A .sample) (hm : A .measure) (h : I s) : I (s.loadSample n) := by
  have h1 : I { s with mfe := { s.mfe with load := loadOfCount n }.stepOverload s.cfg.image } :=
    K.mfe hm h id
  unfold State.loadSample
  dsimp only
  split
  · exact K.takeActs hs _ h1
  · split
    · exact K.takeActs hs _ (K.raise _ h1)
    · exact K.takeActs hs _ h1

theorem levelSample (n : Nat) (hs : A .sample) (hm : A .measure) (h : I s) : I (s.levelSample n) := by
  have h1 : I { s with mfe := { s.mfe with level := levelOfCount n }.stepLevelHigh s.cfg.image } :=
    K.mfe hm h id
  unfold State.levelSample
  dsimp only
  split
  · exact h1
  · split
    · exact K.takeActs hs _ (K.raise _ h1)
    · exact K.takeActs hs _ h1

theorem gapSample (n : Nat) (hs : A .sample) (hm : A .measure) (h : I s) : I (s.gapSample n) := by
  unfold State.gapSample
  split
  · exact K.takeActs hs _ (K.mfe hm h id)
  · have h1 : I { s with mfe := { s.mfe with raw := n, gapValid := false, gapSampled := true } } :=
      K.mfe hm h id
    dsimp only
    split
    · exact K.takeActs hs _ (K.raise _ h1)
    · exact K.takeActs hs _ h1

theorem sample (ch : Channel) (n : Nat) (hs : A .sample) (hm : A .measure) (h : I s) : I (s.sample ch n) := by
  unfold State.sample
  split
  · cases ch with
    | load => exact K.loadSample n hs hm h
    | level => exact K.levelSample n hs hm h
    | gapPos => exact K.gapSample n hs hm h
  · exact h

theorem trampActive (hm : A .measure) (h : I s) : I s.trampActive := by
  have h1 : I (State.raise { s with mfe := { s.mfe with trampIn := true } } .tramp) :=
    K.raise (s := { s with mfe := { s.mfe with trampIn := true } }) _ (K.mfe hm h id)
  unfold State.trampActive State.trampAct
  split
  · split
    · next hg =>
      split
      · split
        · exact K.startClearing h1 hg
        · exact K.trip _ h1
      · exact K.request _ h1
    · exact h1
  · exact h

theorem runFbActive (hm : A .measure) (h : I s) : I s.runFbActive := by
  have h1 : I { s with mfe := { s.mfe with runFbIn := true } } := K.mfe hm h id
  unfold State.runFbActive
  split
  · dsimp only
    split
    · next hc =>
      simp only [Bool.and_eq_true, beq_iff_eq] at hc
      exact K.enterGroup h1 hc.1
    · exact h1
  · exact h

theorem runFbInactive (hm : A .measure) (h : I s) : I s.runFbInactive := by
  have h1 : I { s with mfe := { s.mfe with runFbIn := false } } := K.mfe hm h id
  unfold State.runFbInactive
  split
  · dsimp only
    split
    · exact K.trip _ h1
    · exact h1
  · exact h

theorem scalePulse (hm : A .measure) (h : I s) : I s.scalePulse := by
  rcases s.scalePulse_cases with ⟨-, -, -, e⟩ | ⟨-, e⟩ <;> rw [e]
  · exact K.mfe hm h id
  · exact h

/-! ### Timers -/

theorem startLimitExpiry (h : I s) : I s.startLimitExpiry := by
  unfold State.startLimitExpiry
  split
  · next hc =>
    simp only [Bool.and_eq_true, beq_iff_eq] at hc
    exact K.raise (s := { s.changeRun .ready with rsc := _ }) _ (K.startLimit h hc.1.2)
  · exact h

theorem interlockExpiry (h : I s) : I s.interlockExpiry := by
  unfold State.interlockExpiry
  split
  · next hc =>
    simp only [Bool.and_eq_true] at hc
    exact K.raise _ (K.leaveGroup h (by
      cases hr : s.rsc.runState <;> simp_all [RunState.isTurning, RunState.inGroup]))
  · exact h

theorem drainExpiry (h : I s) : I s.drainExpiry := by
  unfold State.drainExpiry
  split
  · next hc =>
    simp only [Bool.and_eq_true, beq_iff_eq] at hc
    exact K.leaveGroup h (by simp [hc.2, RunState.inGroup])
  · exact h

theorem secondsExpiry (h : I s) : I s.secondsExpiry := by
  have hm : ∀ {t : State}, I t → I t.minuteTick := fun {t} ht => by
    have h1 : I { t with cwu := t.cwu.minuteTick } := by
      refine K.cwu ht ?_
      unfold Cwu.minuteTick
      dsimp only
      split <;> exact ⟨⟨rfl, rfl, rfl⟩, rfl, rfl, rfl⟩
    have h2 : I { t with cwu := { t.cwu.minuteTick with due := true } } :=
      K.cwu (s := { t with cwu := t.cwu.minuteTick }) h1 ⟨⟨rfl, rfl, rfl⟩, rfl, rfl, rfl⟩
    unfold State.minuteTick State.calibrationDue
    dsimp only
    split
    · split
      · exact K.request _ h2
      · exact h2
    · exact h1
  unfold State.secondsExpiry
  split
  · split
    · exact hm (K.cwu h ⟨⟨rfl, rfl, rfl⟩, rfl, rfl, rfl⟩)
    · exact K.cwu h ⟨⟨rfl, rfl, rfl⟩, rfl, rfl, rfl⟩
  · exact h

/-! ### Resets, loads and commands -/

theorem imageLoadEnd (bytes : List Byte) (hl : A .load) (h : I s) : I (s.imageLoadEnd bytes) := by
  unfold State.imageLoadEnd
  split
  · next hv =>
    split
    · next hr => exact K.loadValid hl h hv hr
    · exact K.loadInvalid hl h hv
  all_goals exact h

theorem event {f : State → State} (hf : ∀ {t : State}, I t → I (f t)) (h : I s) {t : State}
    (e : s.event f = .next t) : I t := by
  unfold State.event at e
  split at e <;> cases e
  · exact h
  · exact K.drive (hf h)

theorem orderEvent {head : OrderHead} {kind : Byte} {act : State → Answered} (ho : A .order)
    (hr : A .reception) (ha : ∀ {t : State}, I t → t.cfg.clock = .crystal → I (act t).1) (h : I s) {t : State}
    (e : s.orderEvent head kind act = .next t) : I t :=
  K.event (K.order hr (K.answer ho ha)) h e

/-- An order of a kind, as its command gives it. -/
theorem giveEvent {head : OrderHead} {kind : Byte} (o : Order) (hA : ∀ p ∈ o.touches, A p) (h : I s)
    {t : State} (e : s.orderEvent head kind (fun u => u.give o) = .next t) : I t :=
  K.orderEvent (hA _ (by cases o <;> simp [Order.touches])) (hA _ (by cases o <;> simp [Order.touches]))
    (K.give o hA) h e

/-- A command that touches only what is allowed keeps `I`. -/
theorem exec (i : Instr) (hA : ∀ p ∈ partsTouched i, A p) (h : I s) {t : State}
    (e : exec i s = .next t) : I t := by
  have has {p : Part} (hp : (partsTouched i).contains p = true) : A p := hA p (List.contains_iff_mem.1 hp)
  cases i with
  | powerOnReset => cases e; exact K.powerOn (has rfl) h
  | pinReset => cases e; exact K.pinned (has rfl) h
  | resetAsserted => cases e; exact K.assertReset (has rfl) h
  | imageLoadEnd bytes => exact K.event (K.imageLoadEnd bytes (has rfl)) h e
  | crystalFailure => exact K.event (K.crystalFails (has rfl)) h e
  | periodExpiry => exact K.event (K.periodExpiry (has rfl) (has rfl) (has rfl)) h e
  | idleGap => exact K.event (K.idleGap (has rfl)) h e
  | attemptStart => exact K.event K.attemptStart h e
  | attemptSucceeds => exact K.event K.attemptSucceeds h e
  | attemptLost => exact K.event K.attemptLost h e
  | backoffEnd => exact K.event K.backoffEnd h e
  | invalidTelegramDiscard => exact K.event (K.discardTelegram (has rfl)) h e
  | stateTelegram own x => exact K.event (K.stateTelegram own x (has rfl) (has rfl)) h e
  | unknownKind head kind arg =>
    refine K.event (K.order (has rfl) (K.answerWire _ fun q p hp => hA p ?_)) h e
    cases q <;> simp only [Order.touches, partsTouched, List.mem_cons] at hp ⊢ <;> tauto
  | startLine head => exact K.giveEvent .startLine hA h e
  | stopLine head => exact K.giveEvent .stopLine hA h e
  | hold head => exact K.giveEvent .hold hA h e
  | release head => exact K.giveEvent .release hA h e
  | clearTrip head => exact K.giveEvent .clearTrip hA h e
  | setGap head arg => exact K.giveEvent (.setGap arg.toNat) hA h e
  | setCap head arg => exact K.giveEvent (.setCap arg.toNat) hA h e
  | calibrate head => exact K.giveEvent .calibrate hA h e
  | moveRetry head => exact K.giveEvent .moveRetry hA h e
  | moveDiscard head => exact K.giveEvent .moveDiscard hA h e
  | restoreScale head => exact K.giveEvent .restoreScale hA h e
  | readCal head arg => exact K.giveEvent (.readCal arg.toNat) hA h e
  | linerChanged head => exact K.giveEvent .linerChanged hA h e
  | ackEvents head kinds => exact K.giveEvent (.ackEvents kinds) hA h e
  | sampleEvent ch n => exact K.event (K.sample ch n.toNat (has rfl) (has rfl)) h e
  | scalePulse => exact K.event (K.scalePulse (has rfl)) h e
  | trampActiveEdge => exact K.event (K.trampActive (has rfl)) h e
  | trampInactiveEdge =>
    refine K.event (fun {t} ht => ?_) h e
    unfold State.trampInactive
    split
    · exact K.mfe (has rfl) ht id
    · exact ht
  | pullcordActiveEdge =>
    refine K.event (fun {t} ht => ?_) h e
    unfold State.pullcordActive
    split
    · exact K.trip _ (K.mfe (has rfl) ht id)
    · exact ht
  | pullcordInactiveEdge =>
    refine K.event (fun {t} ht => ?_) h e
    unfold State.pullcordInactive
    split
    · exact K.mfe (has rfl) ht id
    · exact ht
  | runFbActiveEdge => exact K.event (K.runFbActive (has rfl)) h e
  | runFbInactiveEdge => exact K.event (K.runFbInactive (has rfl)) h e
  | startLimitExpiry => exact K.event K.startLimitExpiry h e
  | spinUpExpiry =>
    refine K.event (fun {t} ht => ?_) h e
    unfold State.spinUpExpiry
    split
    · exact K.trip _ ht
    · exact ht
  | interlockExpiry => exact K.event K.interlockExpiry h e
  | drainExpiry => exact K.event K.drainExpiry h e
  | settleTimerExpiry =>
    refine K.event (fun {t} ht => ?_) h e
    unfold State.settleTimerExpiry
    split
    · exact K.settleExpired ht
    · exact ht
  | recordTimerExpiry =>
    refine K.event (fun {t} ht => ?_) h e
    unfold State.recordTimerExpiry
    split
    · exact K.recordExpired ht
    · exact ht
  | remainingTimeExpiry => exact K.event K.remainingExpired h e
  | secondsTimerExpiry => exact K.event K.secondsExpiry h e
  | receivedByte byte err =>
    refine K.event (K.mediumByte byte err (fun q p hp => hA p ?_) (has rfl)) h e
    cases q <;> simp only [Order.touches, partsTouched, List.mem_cons] at hp ⊢ <;> tauto

/-! ### A bit time and a step -/

theorem queueDue (ht : A .time) (due : List Instr) (h : I s) : I (s.queueDue due) := by
  obtain ⟨order, -, e | e⟩ := s.queueDue_cases due <;> rw [e]
  · exact K.queue ht h
  · exact K.queue (s := s.drawn) ht (K.drawn h)

theorem tick (ht : A .time) (h : I s) : I s.tick := by
  unfold State.tick
  split
  · exact h
  · split
    · exact K.watchOver ht h
    · have h1 : I { s.advance with cfg := s.cfg.tick } := K.watchOver ht (K.advance ht h)
      generalize ({ s.advance with cfg := s.cfg.tick } : State) = t at h1
      rcases t.queueAll_cases with ⟨-, e⟩ | ⟨-, -, e⟩ | ⟨-, -, e⟩ <;> rw [e]
      · exact K.queueDue ht _ h1
      · exact K.queueDue ht _ (K.lbi (K.drawn h1) (.inr ⟨rfl, rfl, rfl, rfl, rfl⟩)
          (State.busOk.times _ _))
      · exact K.queueDue ht _ (K.drawn h1)

end Kept

/-- Every step keeps an invariant that all operations keep. -/
theorem Kept.step {I : State → Prop} (K : Kept (fun _ => True) I) {s t : State} (h : I s)
    (e : step s = .next t) : I t := by
  unfold Machine.step at e
  split at e
  · cases e; exact K.tick trivial h
  · exact K.exec _ (fun _ _ => trivial) (K.queue trivial h) e

end Sys2Proof.Machine

/-! PROOFS. Invariants that a change of run state keeps. Where an invariant is kept by a change of run state, by
updates of the RSC that leave the run state, by zeroing and by the tramp count, it is kept by every operation
of the run-state controller; with what moves keep, it is then kept by every step. -/

namespace Sys2Proof.Machine

/-- The invariant `I` is kept by the elementary effects of the run-state controller. -/
structure RunInv (I : State → Prop) : Prop where
  events : ∀ {s : State} {v : Evu}, I s → I { s with evu := v }
  early : ∀ {s : State}, I s → I s.early
  changeRun : ∀ {s : State} {new : RunState}, I s → s.rsc.runState ≠ .offline → new ≠ .offline →
    I (s.changeRun new)
  rsc : ∀ {s : State} {r : Rsc}, I s → r.runState = s.rsc.runState → I { s with rsc := r }
  zero : ∀ {s : State}, I s → I { s with ale := s.ale.zero }
  attempts : ∀ {s : State} (n : Nat), I s → I { s with cwu := { s.cwu with attempts := n } }

theorem RunState.ne_offline_of_inGroup {r : RunState} (h : r.inGroup = true) : r ≠ .offline := by
  rintro rfl; cases h

theorem RunState.inGroup_of_isTurning {r : RunState} (h : r.isTurning = true) : r.inGroup = true := by
  cases r <;> first | rfl | cases h

theorem RunState.withHold_ne_offline {r : RunState} (h : HoldSet) (hr : r ≠ .offline) :
    r.withHold h ≠ .offline := by
  cases r with
  | offline => exact absurd rfl hr
  | running | holding =>
    unfold RunState.withHold
    dsimp only
    split <;> exact fun hc => by cases hc
  | ready | starting | stopping | tripped => exact fun hc => by cases hc

namespace RunInv

variable {I : State → Prop} (R : RunInv I) {s : State}
include R

theorem setHold (h : HoldSet) (hs : I s) : I (s.setHold h) := by
  unfold State.setHold
  split
  · exact hs
  · next hc =>
    simp only [Bool.or_eq_true, Bool.not_eq_true', not_or, Bool.not_eq_false] at hc
    have ho := RunState.ne_offline_of_inGroup hc.2
    dsimp only
    refine R.early (R.changeRun ?_ ho (RunState.withHold_ne_offline h ho))
    split
    · exact R.rsc (s := { s with ale := s.ale.zero }) (R.zero hs) rfl
    · exact R.rsc (s := s) hs rfl

/-- A change of run state and an update of the RSC's other items. -/
theorem changeRunTo {new : RunState} {r : Rsc} (h : I s) (hold : s.rsc.runState ≠ .offline)
    (hnew : new ≠ .offline) (hr : r.runState = new) : I { s.changeRun new with rsc := r } :=
  R.rsc (R.changeRun h hold hnew) (hr.trans (s.changeRun_runState new).symm)

theorem trip (c : TripCause) (h : I s) : I (s.trip c) := by
  have hm (ho : s.rsc.runState ≠ .offline) :
      I (State.raise
        { s.changeRun .tripped with
          rsc :=
            { (s.changeRun .tripped).rsc with
              tripCause := some c
              subPhase := none
              hold := HoldSet.empty
              startTimer := .stopped
              spinTimer := .stopped
              interlockTimer := .stopped
              drainTimer := .stopped } }
        .trip) :=
    R.events (R.changeRunTo h ho (fun hc => by cases hc) (s.changeRun_runState _))
  unfold State.trip
  split
  · exact h
  · exact h
  all_goals
    next hr => exact hm fun hc => by rw [hr] at hc; cases hc

theorem rscAttempts {r : Rsc} (n : Nat) (h : I s) (hr : r.runState = s.rsc.runState) :
    I { s with rsc := r, cwu := { s.cwu with attempts := n } } :=
  R.attempts (s := { s with rsc := r }) n (R.rsc h hr)

theorem leaveGroup (h : I s) (hg : s.rsc.runState.inGroup = true) : I s.leaveGroup :=
  R.changeRun h (RunState.ne_offline_of_inGroup hg) fun hc => by cases hc

variable {F : State → Context → Prop} (M : MoveInv True I F)
include M

theorem startClearing (h : I s) : I s.startClearing :=
  M.request _ (M.changeHold _ (R.attempts 1 h))

theorem enterGroup (h : I s) (hr : s.rsc.runState = .starting) : I s.enterGroup := by
  have hne : s.rsc.runState ≠ .offline := by rw [hr]; exact fun hc => by cases hc
  have h1 : I s.enterStates := by
    unfold State.enterStates
    dsimp only
    have hnew : (if s.entryHold.isEmpty then RunState.running else .holding) ≠ .offline := by
      split <;> exact fun hc => by cases hc
    have hs := R.changeRun h hne hnew
    generalize s.changeRun (if s.entryHold.isEmpty then RunState.running else .holding) = t at hs
    exact R.rscAttempts _ hs rfl
  have h2 : I s.enterStates.evaluateInterlock := R.rsc h1 rfl
  have h3 : I { s.enterStates.evaluateInterlock with
      mve := { s.enterStates.evaluateInterlock.mve with requests := s.entryRequests } } :=
    M.mve h2 ⟨rfl, rfl, rfl, rfl, rfl⟩
  unfold State.enterGroup
  dsimp only
  split
  · exact R.trip _ (M.syncHold (M.select h3))
  · exact M.syncHold (M.select h3)

/-- What runs and moves keep is kept by every operation. -/
theorem kept (B : KeptAtRest (fun _ => True) I) : Kept (fun _ => True) I :=
  { B with
    cwu := M.cwu
    timers := fun h _ => R.rsc h rfl
    trip := R.trip
    setHold := fun h _ => R.setHold _ h
    startClearing := fun h _ => R.startClearing M h
    reduceTest := M.reduceTest
    stopTest := M.stopTest
    request := M.request
    gapNotice := M.gapNotice
    loadNotice := M.loadNotice
    settleExpired := M.settleExpired
    recordExpired := M.recordExpired
    remainingExpired := M.remainingExpired
    retry := M.retry
    discardFault := M.discardFault
    enterGroup := R.enterGroup M
    spin := fun h _ => R.rsc h rfl
    start := fun h hr => R.rsc (R.changeRun h (by simp [hr]) (fun hc => by cases hc)) rfl
    stopStarting := fun {s} h hr =>
      R.changeRunTo h (by simp [hr]) (fun hc => by cases hc) (s.changeRun_runState _)
    stopTurning := fun h hr =>
      R.rsc (R.changeRun h (RunState.ne_offline_of_inGroup (RunState.inGroup_of_isTurning hr))
        (fun hc => by cases hc)) rfl
    leaveGroup := R.leaveGroup
    clearTrip := fun {s} _ h hr _ =>
      R.changeRunTo h (by simp [hr]) (fun hc => by cases hc) (s.changeRun_runState _)
    startLimit := fun {s} h hr =>
      R.changeRunTo h (by simp [hr]) (fun hc => by cases hc) (s.changeRun_runState _) }

end RunInv

/-- Update mode changes at most one record of the table. -/
theorem State.updateSlot_eq (s : State) (c : Context) :
    ∃ t : List MoveRecord, t.length = s.mve.table.length ∧
      s.updateSlot c = { s with mve := { s.mve with table := t } } := by
  unfold State.updateSlot
  split
  · exact ⟨_, List.length_set, rfl⟩
  · exact ⟨s.mve.table, rfl, rfl⟩

/-- An invariant that says nothing of contexts is kept by every move when it is kept by an append to the wear
ring and by update mode. -/
theorem RunInv.moveInv {I : State → Prop} (R : RunInv I)
    (quiet : ∀ {s : State} {m : Mve} {d : Cwu} {f : Mfe}, I s →
      m.table = s.mve.table ∧ m.gSet = s.mve.gSet → d.ring = s.cwu.ring ∧ d.selection = s.cwu.selection →
      f.window.length = s.mfe.window.length → I { s with mve := m, cwu := d, mfe := f })
    (append : ∀ {s : State} (r : CalRecord), I s → I (s.appendCal r))
    (slot : ∀ {s : State} (c : Context), I s → I (s.updateSlot c)) :
    MoveInv True I fun _ _ => True where
  setHold := R.setHold
  trip := R.trip
  raise := fun _ h => R.events h
  quiet := fun h hm hd => quiet h ⟨hm.table, hm.gSet⟩ ⟨hd.ring, hd.selection⟩ rfl
  account := fun _ h hd hf => quiet h ⟨rfl, rfl⟩ ⟨hd.ring, hd.selection⟩ hf
  attempts := fun _ h _ => R.attempts _ h
  append := fun r _ h => append r h
  slot := slot
  idle := fun h => quiet h ⟨rfl, rfl⟩ ⟨rfl, rfl⟩ rfl
  active := fun _ _ => trivial
  set := fun h _ => quiet h ⟨rfl, rfl⟩ ⟨rfl, rfl⟩ rfl
  frame := fun _ _ _ _ => trivial
  goesOn := fun _ _ => trivial
  next := fun _ _ => trivial
  grant := fun _ _ _ _ _ => trivial
  push := fun _ h _ _ => ⟨quiet h ⟨rfl, rfl⟩ ⟨rfl, rfl⟩ rfl, trivial⟩
  pop := fun h _ _ _ _ => ⟨quiet h ⟨rfl, rfl⟩ ⟨rfl, rfl⟩ rfl, trivial⟩
  park := fun _ h _ _ _ _ _ _ => quiet h ⟨rfl, rfl⟩ ⟨rfl, rfl⟩ rfl
  unpark := fun _ _ _ _ => trivial
  empty := fun h => quiet h ⟨rfl, rfl⟩ ⟨rfl, rfl⟩ rfl

end Sys2Proof.Machine

/-! PROOFS. The places of contexts: the order of the suspension stack, and the counts and status of each
context, after every step. -/

namespace Sys2Proof.Machine

/-- `P` says of the active context, the suspension stack and the fault slot only what holds at reset, and goes
on holding where they are dropped or an active record's remaining time is counted down. -/
structure PlaceInv (P : Mve → Prop) : Prop where
  reset : P Mve.reset
  same : ∀ {m n : Mve}, P m → n.active = m.active → n.stack = m.stack → n.parked = m.parked → P n
  discard : ∀ {m : Mve}, P m → P m.discard
  empty : ∀ {m : Mve}, P m → P { m with parked := none }
  tick : ∀ {m : Mve}, P m → P { m with active := m.active.map Context.tick }

theorem Mve.onRunState_cases (m : Mve) (old new : RunState) :
    m.onRunState old new = m ∨ m.onRunState old new = m.discard ∨ m.onRunState old new = m.abort := by
  unfold Mve.onRunState
  split
  · exact .inr (.inr rfl)
  · split
    · exact .inr (.inl rfl)
    · exact .inl rfl

namespace PlaceInv

variable {P : Mve → Prop} (Q : PlaceInv P)
include Q

theorem runInv : RunInv fun s => P s.mve where
  events := fun h => h
  early := fun {s} h => by rw [State.early_mve]; exact h
  changeRun := fun {s new} h _ _ => by
    rcases s.changeRun_eq new with ⟨-, e⟩ | ⟨-, l, e⟩ <;> rw [e]
    · exact h
    · rcases s.mve.onRunState_cases s.rsc.runState new with e | e | e <;> dsimp only <;> rw [e]
      · exact h
      · exact Q.discard h
      · exact Q.empty (Q.discard h)
  rsc := fun h _ => h
  zero := fun h => h
  attempts := fun _ h => h

theorem atRest : KeptAtRest (fun _ => True) (fun s => P s.mve) where
  powerOn := fun _ _ => Q.reset
  pinned := fun _ _ => Q.reset
  assertReset := fun _ h => h
  watchOver := fun _ h => h
  advance := fun _ h => Q.same (Q.tick h) rfl rfl rfl
  loadValid := fun {s _ r} _ h _ _ => by
    have h1 : P (s.handOver r.1 r.2).enterReady.mve := by
      have h0 : P (s.handOver r.1 r.2).mve := Q.same h rfl rfl rfl
      rcases State.changeRun_eq
        { s.handOver r.1 r.2 with
          lbi := { (s.handOver r.1 r.2).lbi with periodTimer := .running 0 }
          mfe := { (s.handOver r.1 r.2).mfe with sampleBase := .running 0 } } .ready
        with ⟨-, e⟩ | ⟨-, l, e⟩ <;> unfold State.enterReady <;> rw [e]
      · exact h0
      · rcases (s.handOver r.1 r.2).mve.onRunState_cases s.rsc.runState .ready
          with e | e | e
        · exact e.symm ▸ h0
        · exact e.symm ▸ Q.discard h0
        · exact e.symm ▸ Q.empty (Q.discard h0)
    unfold State.loadValid
    dsimp only
    split
    · exact h1
    · exact Q.runInv.trip _ h1
  loadInvalid := fun _ h _ => h
  crystalFails := fun {s} _ h => by
    unfold State.crystalFails
    split
    · exact Q.runInv.trip _ (Q.runInv.events h)
    · exact h
  raise := fun _ h => h
  queue := fun _ h => h
  echo := fun _ h => h
  forget := fun _ h => h
  own := fun h => h
  lbi := fun h _ _ => h
  peers := fun _ h _ => h
  mfe := fun _ h _ => h
  selection := fun _ _ h => h
  newLiner := fun _ h => h
  cap := fun _ _ h => h
  alePeriod := fun h => Q.same h rfl rfl rfl
  writeGap := fun _ _ h => Q.same h rfl rfl rfl
  duplicate := fun {s} _ h _ => Q.runInv.trip _ (Q.runInv.events h)

end PlaceInv

/-! ### The order of the arbiter -/

theorem Requester.priority_le (r : Requester) : r.priority ≤ 3 := by cases r <;> decide

theorem Context.tick_requester (c : Context) : c.tick.requester = c.requester := by
  unfold Context.tick; split <;> rfl

/-- What `Mve.ordered` says of one context in the place of the active one. -/
def Mve.fits (m : Mve) (c : Context) : Prop :=
  (∀ b ∈ m.stack, b.requester.priority < c.requester.priority) ∧
    ∀ p ∈ m.parked, c.requester.priority = 3

theorem Mve.ordered.empty {m : Mve} (h : m.ordered) : Mve.ordered { m with parked := none } :=
  ⟨h.1, h.2.1, h.2.2.1, fun _ hp => by simp at hp⟩

theorem Mve.ordered_placeInv : PlaceInv Mve.ordered where
  reset := ⟨.nil, by simp [Mve.reset], by simp [Mve.reset], by simp [Mve.reset]⟩
  same := fun {m n} h ha hs hp => by simpa [Mve.ordered, ha, hs, hp] using h
  discard := fun {m} h =>
    ⟨.nil, by simp [Mve.discard], by simp [Mve.discard], fun p hp =>
      ⟨(h.2.2.2 p hp).1, by simp [Mve.discard], by simp [Mve.discard]⟩⟩
  empty := Mve.ordered.empty
  tick := fun {m} h => by simpa [Mve.ordered, Context.tick_requester] using h

/-- The top of the stack has the highest priority on it. -/
theorem Mve.ordered.le_top {m : Mve} (h : m.ordered) {top b : Context} (ht : m.stack.getLast? = some top)
    (hb : b ∈ m.stack) : b.requester.priority ≤ top.requester.priority := by
  obtain ⟨l, hl⟩ := List.getLast?_eq_some_iff.1 ht
  obtain ⟨hpair, -⟩ := h
  rw [hl, List.pairwise_append] at hpair
  rw [hl, List.mem_append, List.mem_singleton] at hb
  rcases hb with hb | rfl
  · exact (hpair.2.2 b hb top (by simp)).le
  · exact le_rfl

/-- Below the top of the stack the priorities are lower. -/
theorem Mve.ordered.lt_top {m : Mve} (h : m.ordered) {top b : Context} (ht : m.stack.getLast? = some top)
    (hb : b ∈ m.stack.dropLast) : b.requester.priority < top.requester.priority := by
  obtain ⟨l, hl⟩ := List.getLast?_eq_some_iff.1 ht
  obtain ⟨hpair, -⟩ := h
  rw [hl, List.pairwise_append] at hpair
  rw [hl, List.dropLast_concat] at hb
  exact hpair.2.2 b hb top (by simp)

theorem Mve.ordered.withActive {m : Mve} (h : m.ordered) {c : Context} (hc : m.fits c) :
    Mve.ordered { m with active := some c } := by
  refine ⟨h.1, h.2.1, ?_, fun p hp => ⟨(h.2.2.2 p hp).1, (h.2.2.2 p hp).2.1, ?_⟩⟩
  · simpa using hc.1
  · simpa using hc.2 p hp

theorem Mve.ordered.noActive {m : Mve} (h : m.ordered) : Mve.ordered { m with active := none } :=
  ⟨h.1, h.2.1, by simp, fun p hp => ⟨(h.2.2.2 p hp).1, (h.2.2.2 p hp).2.1, by simp⟩⟩

theorem Mve.ordered.pushed {m : Mve} (h : m.ordered) {c d : Context} (ha : m.active = some c)
    (hd : d.requester = c.requester) (hc : c.requester.priority < 3) :
    m.parked = none ∧ Mve.ordered { m with active := none, stack := m.stack ++ [d] } := by
  have hp : m.parked = none := by
    by_contra hne
    obtain ⟨p, hp⟩ := Option.ne_none_iff_exists'.1 hne
    have := (h.2.2.2 p hp).2.2 c ha
    omega
  have hbelow := h.2.2.1 c ha
  refine ⟨hp, ?_, ?_, by simp, by simp [hp]⟩
  · refine List.pairwise_append.2 ⟨h.1, by simp, fun b hb x hx => ?_⟩
    obtain rfl := List.mem_singleton.1 hx
    exact hd ▸ hbelow b hb
  · intro b hb
    rcases List.mem_append.1 hb with hb | hb
    · exact h.2.1 b hb
    · obtain rfl := List.mem_singleton.1 hb
      exact hd ▸ hc

theorem Mve.ordered.popped {m : Mve} (h : m.ordered) (ha : m.active = none) (hp : m.parked = none) :
    Mve.ordered { m with stack := m.stack.dropLast } :=
  ⟨h.1.sublist (List.dropLast_sublist _), fun b hb => h.2.1 b (List.dropLast_subset _ hb), by simp [ha],
    by simp [hp]⟩

theorem Mve.ordered.withParked {m : Mve} (h : m.ordered) {c d : Context} (ha : m.active = some c)
    (hd : d.requester = c.requester) (hc : c.requester.priority ≠ 3) :
    Mve.ordered { m with active := none, parked := some d } := by
  have hlt : c.requester.priority < 3 := lt_of_le_of_ne c.requester.priority_le hc
  refine ⟨h.1, h.2.1, by simp, fun p hp => ?_⟩
  obtain rfl := Option.mem_some_iff.1 hp
  exact ⟨hd ▸ hlt, hd ▸ h.2.2.1 c ha, by simp⟩

/-- Every move keeps the order; the active context has its place above the stack. -/
theorem Mve.ordered_moveInv : MoveInv True (fun s => s.mve.ordered) fun s c => s.mve.fits c where
  setHold := Mve.ordered_placeInv.runInv.setHold
  trip := Mve.ordered_placeInv.runInv.trip
  raise := fun _ h => h
  quiet := fun h hm _ => Mve.ordered_placeInv.same h hm.active hm.stack hm.parked
  attempts := fun _ h _ => h
  account := fun _ h _ _ => h
  append := fun _ _ h => h
  slot := fun {s} c h => by
    unfold State.updateSlot
    split
    · exact Mve.ordered_placeInv.same h rfl rfl rfl
    · exact h
  idle := Mve.ordered.noActive
  active := fun h ha => ⟨h.2.2.1 _ ha, fun p hp => (h.2.2.2 p hp).2.2 _ ha⟩
  set := fun {s} _ h hc => Mve.ordered.withActive (m := s.mve) h hc
  frame := fun h hs hp _ => by simpa [Mve.fits, hs, hp] using h
  goesOn := fun h hd => by simpa [Mve.fits, hd.requester] using h
  next := fun h _ => h
  grant := fun {s r} _ h _ _ hr => by
    rcases hr with rfl | ⟨hp, htop⟩
    · exact ⟨h.2.1, fun _ _ => rfl⟩
    · refine ⟨fun b hb => ?_, by simp [hp]⟩
      cases ht : s.mve.stack.getLast? with
      | none => simp [List.getLast?_eq_none_iff.1 ht] at hb
      | some top => exact (h.le_top ht hb).trans_lt (htop top ht)
  push := fun {s c r} _ h ha hlt => by
    obtain ⟨hp, ho⟩ := h.pushed (d := c.suspend) ha rfl (hlt.trans_le r.priority_le)
    refine ⟨ho, fun b hb => ?_, by simp [hp]⟩
    rcases List.mem_append.1 hb with hb | hb
    · exact (h.2.2.1 c ha b hb).trans hlt
    · obtain rfl := List.mem_singleton.1 hb
      exact hlt
  pop := fun {s c} h _ ha hp ht => ⟨h.popped ha hp, fun _ hb => h.lt_top (top := c) ht hb, by simp [hp]⟩
  park := fun _ h ha hne hr _ _ _ => h.withParked ha hr hne
  unpark := fun {s c} h _ _ hp => ⟨(h.2.2.2 c hp).2.1, by simp⟩
  empty := Mve.ordered.empty

/-- A list of naturals below `n` that rises strictly has at most `n` members. -/
theorem length_le_of_rising {l : List Nat} (hl : l.Pairwise (· < ·)) {n : Nat} (hn : ∀ a ∈ l, a < n) :
    l.length ≤ n := by
  have hsub : l ⊆ List.range n := fun a ha => List.mem_range.2 (hn a ha)
  have hnd : l.Nodup := hl.imp ne_of_lt
  simpa using (hnd.subperm hsub).length_le

theorem Mve.ordered.stack_length {m : Mve} (h : m.ordered) : m.stack.length ≤ 3 := by
  have := length_le_of_rising (l := m.stack.map fun c => c.requester.priority)
    (List.pairwise_map.2 h.1) (n := 3) (by simpa using h.2.1)
  simpa using this

theorem Mve.ordered_kept : Kept (fun _ => True) (fun s => s.mve.ordered) :=
  Mve.ordered_placeInv.runInv.kept Mve.ordered_moveInv Mve.ordered_placeInv.atRest

/-- Settles O13: a push goes above the stack, a grant or a resumption above what is left, and a parked fault
empties the active place for a chain of priority 3 alone. -/
theorem arbiterOrderKept : Obligations.ArbiterOrderKept := fun _ _ h e =>
  have ht := Mve.ordered_kept.step h e
  ⟨ht, ht.stack_length⟩

/-! ### The counts and the status of each context -/

/-- Each context has the status of its place and counts in their ranges. -/
def Mve.contextsOk (m : Mve) : Prop := m.statusOk ∧ m.countsOk

/-- A context that may be active: NEW, with its counts in their ranges. -/
def Context.activeOk (c : Context) : Prop := c.status = .new ∧ c.countsOk 63

theorem Mve.contextsOk_iff (m : Mve) :
    m.contextsOk ↔
      (∀ c ∈ m.active, c.activeOk) ∧ (∀ b ∈ m.stack, b.status = .suspended ∧ b.countsOk 63) ∧
        ∀ p ∈ m.parked, (∃ f, p.status = .fault f) ∧ p.countsOk 64 := by
  simp only [Mve.contextsOk, Mve.statusOk, Mve.countsOk, Context.activeOk]
  constructor
  · rintro ⟨⟨ha, hs, hp⟩, ka, ks, kp⟩
    exact ⟨fun c hc => ⟨ha c hc, ka c hc⟩, fun b hb => ⟨hs b hb, ks b hb⟩, fun p h => ⟨hp p h, kp p h⟩⟩
  · rintro ⟨ha, hs, hp⟩
    exact ⟨⟨fun c hc => (ha c hc).1, fun b hb => (hs b hb).1, fun p h => (hp p h).1⟩,
      fun c hc => (ha c hc).2, fun b hb => (hs b hb).2, fun p h => (hp p h).2⟩

theorem Context.activeOk.tick {c : Context} (h : c.activeOk) : c.tick.activeOk := by
  unfold Context.tick
  split <;> exact h

theorem Context.countsOk.suspend {c : Context} (h : c.countsOk 63) : c.suspend.countsOk 63 := by
  refine ⟨h.1, h.2.1, fun n hn => ?_⟩
  cases hp : c.phase <;> simp [Context.suspend, hp] at hn
  omega

theorem Context.activeOk.goesOn {c d : Context} (h : c.activeOk) (hd : c.GoesOn d) : d.activeOk := by
  obtain ⟨hnew, hex, hre, hph⟩ := h
  refine ⟨hd.status.elim (·.trans hnew) id, hd.executed.trans hex, ?_, ?_⟩
  · exact hd.redrives.elim (fun e => e ▸ hre) id
  · exact hd.phase.elim (fun e => e ▸ hph) id

theorem newContext_activeOk (r : Requester) (h : Head) : (newContext r h).activeOk :=
  ⟨rfl, Nat.zero_le _, Nat.zero_le _, fun _ hn => by cases hn⟩

theorem Mve.contextsOk_placeInv : PlaceInv Mve.contextsOk where
  reset := by simp [Mve.contextsOk_iff, Mve.reset]
  same := fun h ha hs hp => by simpa [Mve.contextsOk_iff, ha, hs, hp] using h
  discard := fun {m} h => by
    rw [Mve.contextsOk_iff] at h ⊢
    exact ⟨by simp [Mve.discard], by simp [Mve.discard], h.2.2⟩
  empty := fun {m} h => by
    rw [Mve.contextsOk_iff] at h ⊢
    exact ⟨h.1, h.2.1, by simp⟩
  tick := fun {m} h => by
    rw [Mve.contextsOk_iff] at h ⊢
    refine ⟨fun c hc => ?_, h.2⟩
    obtain ⟨d, hd, rfl⟩ := Option.mem_map.1 hc
    exact (h.1 d hd).tick

/-- Every move keeps the counts and the status of each context. -/
theorem Mve.contextsOk_moveInv : MoveInv True (fun s => s.mve.contextsOk) fun _ c => c.activeOk where
  setHold := Mve.contextsOk_placeInv.runInv.setHold
  trip := Mve.contextsOk_placeInv.runInv.trip
  raise := fun _ h => h
  quiet := fun h hm _ => Mve.contextsOk_placeInv.same h hm.active hm.stack hm.parked
  attempts := fun _ h _ => h
  account := fun _ h _ _ => h
  append := fun _ _ h => h
  slot := fun {s} c h => by
    unfold State.updateSlot
    split
    · exact Mve.contextsOk_placeInv.same h rfl rfl rfl
    · exact h
  idle := fun {s} h => by
    rw [Mve.contextsOk_iff] at h ⊢
    exact ⟨by simp [State.noActive], h.2⟩
  active := fun h ha => ((Mve.contextsOk_iff _).1 h).1 _ ha
  set := fun {s c} h hc => by
    rw [Mve.contextsOk_iff] at h ⊢
    exact ⟨by simpa [State.setActive] using hc, h.2⟩
  frame := fun h _ _ _ => h
  goesOn := Context.activeOk.goesOn
  next := fun h hlt => ⟨h.1, by dsimp only; omega, h.2.2⟩
  grant := fun hd _ _ _ _ => newContext_activeOk _ hd
  push := fun {s c r} hd h ha _ => by
    refine ⟨?_, newContext_activeOk r hd⟩
    rw [Mve.contextsOk_iff] at h ⊢
    obtain ⟨hact, hstack, hpark⟩ := h
    refine ⟨by simp, fun b hb => ?_, hpark⟩
    rcases List.mem_append.1 hb with hb | hb
    · exact hstack b hb
    · obtain rfl := List.mem_singleton.1 hb
      exact ⟨rfl, (hact c ha).2.suspend⟩
  pop := fun {s c} h _ _ _ ht => by
    rw [Mve.contextsOk_iff] at h
    obtain ⟨hact, hstack, hpark⟩ := h
    refine ⟨(Mve.contextsOk_iff _).2 ⟨hact, fun b hb => hstack b (List.dropLast_subset _ hb), hpark⟩, rfl, ?_⟩
    exact (hstack c (List.mem_of_getLast? ht)).2
  park := fun {s c d} f h ha _ _ he hr hp => by
    rw [Mve.contextsOk_iff] at h ⊢
    obtain ⟨hact, hstack, -⟩ := h
    obtain ⟨-, hex, hre, hph⟩ := hact c ha
    refine ⟨by simp, hstack, fun p hm => ?_⟩
    obtain rfl := Option.mem_some_iff.1 hm
    exact ⟨⟨f, rfl⟩, by dsimp only; omega, by dsimp only; omega, hp.elim (fun e => e ▸ hph) id⟩
  unpark := fun {s c} h _ _ hp =>
    have hc := (((Mve.contextsOk_iff _).1 h).2.2 c hp).2
    ⟨rfl, Nat.zero_le _, hc.2⟩
  empty := fun h => Mve.contextsOk_placeInv.empty h

theorem Mve.contextsOk_kept : Kept (fun _ => True) (fun s => s.mve.contextsOk) :=
  Mve.contextsOk_placeInv.runInv.kept Mve.contextsOk_moveInv Mve.contextsOk_placeInv.atRest

/-- Settles O14: a load clears the re-drives, a re-drive is taken below two, a completion counts below the
loop limit, and a status is set with each change of place. -/
theorem contextCountsKept : Obligations.ContextCountsKept := fun _ _ hs hc e =>
  Mve.contextsOk_kept.step ⟨hs, hc⟩ e

end Sys2Proof.Machine

/-! PROOFS. What every step keeps of the peer table, of the bus sides, of the stores, of the gap target and of
the feed command. The end of a load, which is the one way out of OFFLINE, comes first. -/

namespace Sys2Proof.Machine

/-! ### Changes of run state and the end of a load -/

theorem State.loadCoherent.of_eq {s t : State} (h : s.loadCoherent)
    (hr : t.rsc.runState = s.rsc.runState) (hv : t.cfg.validity = s.cfg.validity) : t.loadCoherent := by
  simpa only [State.loadCoherent, hr, hv] using h

theorem State.loadCoherent.changeRun {s : State} {new : RunState} (h : s.loadCoherent)
    (hold : s.rsc.runState ≠ .offline) (hnew : new ≠ .offline) : (s.changeRun new).loadCoherent := by
  rw [State.loadCoherent, State.changeRun_runState, State.changeRun_cfg]
  exact ⟨fun hc => absurd hc hnew, fun hc => absurd (h.2 hc) hold⟩

theorem State.loadCoherent.loading {s : State} (h : s.loadCoherent) (hv : s.cfg.validity = .loading) :
    s.rsc.runState = .offline := h.2 (by simp [hv])

theorem State.changeRun_peers (s : State) (new : RunState) : (s.changeRun new).peers = s.peers :=
  (s.changeRun_keeps new).peers

theorem Ale.onRunState_cases (x : Ale) (old new : RunState) :
    x.onRunState old new = x ∨ x.onRunState old new = x.zero := by
  unfold Ale.onRunState
  split
  · exact .inr rfl
  · exact .inl rfl

theorem Cwu.onRunState_stores (c : Cwu) (role : Role) (old new : RunState) :
    (c.onRunState role old new).ring = c.ring ∧ (c.onRunState role old new).selection = c.selection := by
  unfold Cwu.onRunState
  dsimp only
  split <;> split <;> exact ⟨rfl, rfl⟩

theorem Mve.onRunState_stores (m : Mve) (old new : RunState) :
    (m.onRunState old new).table = m.table ∧ (m.onRunState old new).gSet = m.gSet := by
  rcases m.onRunState_cases old new with e | e | e <;> rw [e] <;> exact ⟨rfl, rfl⟩

/-- A change of run state leaves the stores of the MVE. -/
theorem State.changeRun_mve_stores (s : State) (new : RunState) :
    (s.changeRun new).mve.table = s.mve.table ∧ (s.changeRun new).mve.gSet = s.mve.gSet := by
  rcases s.changeRun_eq new with ⟨-, e⟩ | ⟨-, l, e⟩ <;> rw [e]
  · exact ⟨rfl, rfl⟩
  · exact s.mve.onRunState_stores _ _

/-- A change of run state leaves the wear ring and its selection. -/
theorem State.changeRun_cwu_stores (s : State) (new : RunState) :
    (s.changeRun new).cwu.ring = s.cwu.ring ∧ (s.changeRun new).cwu.selection = s.cwu.selection := by
  rcases s.changeRun_eq new with ⟨-, e⟩ | ⟨-, l, e⟩ <;> rw [e]
  · exact ⟨rfl, rfl⟩
  · exact s.cwu.onRunState_stores _ _ _

/-- The end of a load leaves OFFLINE for READY and perhaps for TRIPPED. -/
theorem RunInv.loadValid {I : State → Prop} (R : RunInv I) {s : State} {i : Image}
    {records : List MoveRecord} (h : I (s.handOver i records).enterReady) : I (s.loadValid i records) := by
  unfold State.loadValid
  dsimp only
  split
  · exact h
  · exact R.trip _ h

theorem State.enterReady_loadCoherent {s : State} (hv : s.cfg.validity = .valid) :
    s.enterReady.loadCoherent := by
  rw [State.loadCoherent, State.enterReady, State.changeRun_runState, State.changeRun_cfg]
  exact ⟨fun hc => (by cases hc), fun hc => absurd hv hc⟩

theorem readImage_ok {bytes : List Byte} {r : Image × List MoveRecord} (h : readImage bytes = some r) :
    r.1.ok = true := by
  simp only [readImage, Option.bind_eq_bind, Option.bind_eq_some_iff] at h
  obtain ⟨i, -, records, -, h⟩ := h
  split at h
  · next hok =>
    cases h
    simp only [Bool.and_eq_true] at hok
    exact hok.2
  · cases h

theorem imageRecords_length (bytes : List Byte) (count n : Nat) {l : List MoveRecord}
    (h : imageRecords bytes count n = some l) : l.length = count := by
  induction count generalizing n l with
  | zero => cases h; rfl
  | succ count ih =>
    simp only [imageRecords, Option.bind_eq_bind, Option.bind_eq_some_iff] at h
    obtain ⟨r, -, rest, hrest, he⟩ := h
    cases he
    simp [ih _ hrest]

theorem readImage_length {bytes : List Byte} {r : Image × List MoveRecord} (h : readImage bytes = some r) :
    r.2.length = 31 := by
  simp only [readImage, Option.bind_eq_bind, Option.bind_eq_some_iff] at h
  obtain ⟨i, -, records, hr, h⟩ := h
  split at h
  · cases h
    exact imageRecords_length _ _ _ hr
  · cases h

/-! ### The peer table -/

theorem State.peersOk.of_eq {s t : State} (h : s.peersOk) (hp : t.peers = s.peers)
    (hr : t.rsc.runState = s.rsc.runState) (hv : t.cfg.validity = s.cfg.validity)
    (hn : t.cfg.image.number = s.cfg.image.number) : t.peersOk := by
  simpa only [State.peersOk, State.loadCoherent, hp, hr, hv, hn] using h

theorem State.peersOk_reset {s : State} (hp : s.peers = []) (hl : s.loadCoherent) : s.peersOk := by
  simp [State.peersOk, hp, hl]

theorem State.peersOk_runInv : RunInv State.peersOk where
  events := fun h => h
  early := fun {s} h => h.of_eq (by simp) (by simp) (by simp) (by simp)
  changeRun := fun {s new} h hold hnew => by
    obtain ⟨hload, hasc, hlen, hall, -⟩ := h
    refine ⟨hload.changeRun hold hnew, ?_⟩
    rw [State.changeRun_peers, State.changeRun_cfg, State.changeRun_runState]
    exact ⟨hasc, hlen, hall, fun hc => absurd hc hnew⟩
  rsc := fun h hr => h.of_eq rfl hr rfl rfl
  zero := fun h => h
  attempts := fun _ h => h

theorem State.peersOk_atRest : KeptAtRest (fun _ => True) State.peersOk where
  powerOn := fun _ _ => State.peersOk_reset rfl ⟨fun _ hc => (by cases hc), fun _ => rfl⟩
  pinned := fun _ _ => State.peersOk_reset rfl ⟨fun _ hc => (by cases hc), fun _ => rfl⟩
  assertReset := fun _ h => h
  watchOver := fun _ h => h
  advance := fun _ h => h
  loadValid := fun {s _ r} _ h hv _ => by
    refine State.peersOk_runInv.loadValid (State.peersOk_reset ?_ (State.enterReady_loadCoherent rfl))
    rw [State.enterReady, State.changeRun_peers]
    exact h.2.2.2.2 (h.1.loading hv)
  loadInvalid := fun {s} _ h hv =>
    State.peersOk_reset (h.2.2.2.2 (h.1.loading hv)) ⟨fun _ hc => (by cases hc), fun _ => h.1.loading hv⟩
  crystalFails := fun {s} _ h => by
    unfold State.crystalFails
    split
    · exact State.peersOk_runInv.trip _ (h.of_eq rfl rfl rfl rfl)
    · exact h
  raise := fun _ h => h
  queue := fun _ h => h
  echo := fun _ h => h
  forget := fun _ h => h
  own := fun h => h
  lbi := fun h _ _ => h
  peers := fun _ h hp => hp h
  mfe := fun _ h _ => h
  selection := fun _ _ h => h
  newLiner := fun _ h => h
  cap := fun _ _ h => h
  alePeriod := fun h => h
  writeGap := fun _ _ h => h
  duplicate := fun {s} _ h _ => State.peersOk_runInv.trip _ h

theorem State.peersOk_kept : Kept (fun _ => True) State.peersOk :=
  State.peersOk_runInv.kept
    (State.peersOk_runInv.moveInv (fun h _ _ _ => h) (fun _ h => h) fun {s} c h => by
      obtain ⟨t, -, e⟩ := s.updateSlot_eq c
      exact e ▸ h)
    State.peersOk_atRest

/-- Settles O15: a write and an ageing keep the table as it may stand, and nothing else changes it but a
reset. -/
theorem peerTableKept : Obligations.PeerTableKept := fun _ _ h e => State.peersOk_kept.step h e

/-! ### The bus sides -/

theorem State.busOk.of_eq {s t : State} (h : s.busOk) (hl : t.lbi = s.lbi)
    (hr : t.rsc.runState = s.rsc.runState) (hc : t.cfg.clock = s.cfg.clock) : t.busOk := by
  simpa only [State.busOk, State.sendingOk, State.receivingOk, State.sends, State.receives, hl, hr, hc]
    using h

/-- Both sides stopped may stand everywhere, but for the inhibit flag. -/
theorem State.busOk_stopped {s : State} (hi : s.lbi.inhibit = true → s.rsc.runState = .tripped)
    (ht : s.lbi.tx = .idle) (ha : s.lbi.attempts = 0) (he : s.lbi.earlyPending = false)
    (hx : s.lbi.rx = .hunt) (hb : s.lbi.rxBytes = []) : s.busOk := by
  refine ⟨⟨fun _ => ⟨ht, ha, he⟩, hi, by omega, fun hc => ?_⟩, fun _ => hx, fun _ => hb, fun hc => ?_⟩
  · cases ht.symm.trans hc
  · cases hx.symm.trans hc

theorem State.busOk_runInv : RunInv State.busOk where
  events := fun h => h
  early := State.busOk.early
  changeRun := fun h hold hnew => h.changeRun _ hold hnew
  rsc := fun h hr => h.of_eq rfl hr rfl
  zero := fun h => h
  attempts := fun _ h => h

theorem State.trip_runState {s : State} (c : TripCause) (h : s.rsc.runState ≠ .offline) :
    (s.trip c).rsc.runState = .tripped := by
  unfold State.trip
  split
  · next hr => exact absurd hr h
  · next hr => exact hr
  all_goals exact State.changeRun_runState _ _

theorem State.early_of_not_sends {s : State} (h : s.sends = false) : s.early = s := by
  simp [State.early, h]

/-- A trip under the inhibit flag begins no telegram. -/
theorem State.trip_lbi_of_inhibit {s : State} (c : TripCause) (h : s.lbi.inhibit = true) :
    (s.trip c).lbi = s.lbi := by
  have hlbi : s.lbi.onRunState s.rsc.runState .tripped = s.lbi := by simp [Lbi.onRunState]
  have hrun : (s.changeRun .tripped).lbi = s.lbi := by
    unfold State.changeRun
    split
    · rfl
    · dsimp only
      rw [State.early_of_not_sends (by simp [State.sends, hlbi, h])]
      exact hlbi
  unfold State.trip
  split
  · rfl
  · rfl
  all_goals exact hrun

/-- READY is entered from OFFLINE with both sides stopped. -/
theorem State.busOk.enterReady {s : State} (h : s.busOk) : s.enterReady.busOk := by
  have h1 : State.busOk { s with
      lbi := { s.lbi with periodTimer := .running 0 }
      mfe := { s.mfe with sampleBase := .running 0 } } := (h.times _ s.lbi.idleTime).of_eq rfl rfl rfl
  by_cases ho : s.rsc.runState = .offline
  · obtain ⟨⟨hidle, hinh, -, -⟩, hhunt, hempty, -⟩ := h
    obtain ⟨ht, ha, he⟩ := hidle (by simp [State.sends, ho])
    have hx := hhunt (by simp [State.receives, ho])
    have hi : s.lbi.inhibit = false := by
      by_contra hc
      cases ho.symm.trans (hinh (by simpa using hc))
    unfold State.enterReady State.changeRun
    dsimp only
    rw [ho]
    exact State.busOk.early (State.busOk_stopped (fun hc => by cases hi.symm.trans hc) ht ha he hx
      (hempty (by simp [hx])))
  · exact h1.changeRun .ready ho fun hc => by cases hc

/-- A duplicate stops and inhibits the sending side, in TRIPPED. -/
theorem State.busOk.duplicate {s : State} (h : s.busOk) (ho : s.rsc.runState ≠ .offline) :
    s.duplicate.busOk := by
  have hlbi : s.duplicate.lbi = { s.lbi.stopSending with inhibit := true, dupQuiet := 0 } :=
    State.trip_lbi_of_inhibit _ rfl
  have hrun : s.duplicate.rsc.runState = .tripped := State.trip_runState _ ho
  have hcfg : s.duplicate.cfg = s.cfg := (State.trip_keeps _ _).cfg
  obtain ⟨-, hrx⟩ := h
  refine ⟨⟨fun _ => ?_, fun _ => hrun, ?_, fun hc => ?_⟩, ?_⟩
  · rw [hlbi]; exact ⟨rfl, rfl, rfl⟩
  · rw [hlbi]; exact Nat.zero_le 3
  · rw [hlbi] at hc; cases hc
  · have hrec : s.duplicate.receives = s.receives := by
      rw [State.receives, State.receives, hrun, hcfg, bne_iff_ne.2 ho]
      rfl
    simpa only [State.receivingOk, hrec, hlbi, Lbi.stopSending] using hrx

theorem State.busOk_atRest : KeptAtRest (fun _ => True) State.busOk where
  powerOn := fun _ _ => State.busOk_stopped (fun hc => by cases hc) rfl rfl rfl rfl rfl
  pinned := fun _ _ => State.busOk_stopped (fun hc => by cases hc) rfl rfl rfl rfl rfl
  assertReset := fun _ h => h.of_eq rfl rfl rfl
  watchOver := fun _ h => h.of_eq rfl rfl rfl
  advance := fun _ h => (h.times _ _).of_eq rfl rfl rfl
  loadValid := fun {s _ r} _ h _ _ =>
    State.busOk_runInv.loadValid (State.busOk.enterReady (h.of_eq rfl rfl rfl))
  loadInvalid := fun _ h _ => h.of_eq rfl rfl rfl
  crystalFails := fun {s} _ h => by
    unfold State.crystalFails
    split
    · exact State.busOk_runInv.trip _ (State.busOk_stopped (s := { s with
        evu := _, cfg := _, lbi := s.lbi.stopSending.hunt }) h.1.2.1 rfl rfl rfl rfl rfl)
    · exact h
  raise := fun _ h => h
  queue := fun _ h => h
  echo := fun _ h => h
  forget := fun _ h => h
  own := fun h => h
  lbi := fun h _ hl => hl h
  peers := fun _ h _ => h
  mfe := fun _ h _ => h
  selection := fun _ _ h => h
  newLiner := fun _ h => h
  cap := fun _ _ h => h
  alePeriod := fun h => h
  writeGap := fun _ _ h => h
  duplicate := fun _ => State.busOk.duplicate

theorem State.busOk_kept : Kept (fun _ => True) State.busOk :=
  State.busOk_runInv.kept
    (State.busOk_runInv.moveInv (fun h _ _ _ => h) (fun _ h => h) fun {s} c h => by
      obtain ⟨t, -, e⟩ := s.updateSlot_eq c
      exact e ▸ h)
    State.busOk_atRest

/-- Settles O16: an early telegram is begun only where the sending side runs, a collection only where the
receiving side does, and a crystal's failure and a duplicate stop what may not go on. -/
theorem busSidesKept : Obligations.BusSidesKept := fun _ _ hs hr e => State.busOk_kept.step ⟨hs, hr⟩ e

/-! ### The stores -/

theorem State.storesOk.of_eq {s t : State} (h : s.storesOk)
    (hw : t.mfe.window.length = s.mfe.window.length) (ht : t.mve.table.length = s.mve.table.length)
    (hr : t.cwu.ring = s.cwu.ring) (hn : t.cwu.selection = s.cwu.selection) : t.storesOk := by
  simpa only [State.storesOk, hw, ht, hr, hn] using h

theorem State.storesOk.changeRun {s : State} (h : s.storesOk) (new : RunState) :
    (s.changeRun new).storesOk :=
  h.of_eq (by simp) (by rw [(s.changeRun_mve_stores new).1]) (s.changeRun_cwu_stores new).1
    (s.changeRun_cwu_stores new).2

theorem State.storesOk.enterReady {s : State} (h : s.storesOk) : s.enterReady.storesOk :=
  State.storesOk.changeRun (s := { s with lbi := _, mfe := { s.mfe with sampleBase := .running 0 } }) h _

theorem State.storesOk_runInv : RunInv State.storesOk where
  events := fun h => h
  early := fun h => h.of_eq (by simp) (by simp) (by simp) (by simp)
  changeRun := fun h _ _ => h.changeRun _
  rsc := fun h _ => h
  zero := fun h => h
  attempts := fun _ h => h

theorem appendRecord_length {ring : List CalRecord} (r : CalRecord) (h : ring.length ≤ 8) :
    0 < (appendRecord ring r).length ∧ (appendRecord ring r).length ≤ 8 := by
  unfold appendRecord
  split
  · next hlt => simp only [ringLimit] at hlt; simp; omega
  · next hge => simp only [ringLimit] at hge ⊢; simp; omega

theorem State.storesOk.append {s : State} (r : CalRecord) (h : s.storesOk) : (s.appendCal r).storesOk := by
  obtain ⟨hwin, htab, hring, -, -⟩ := h
  obtain ⟨hpos, hle⟩ := appendRecord_length r hring
  exact ⟨hwin, htab, hle, Nat.zero_le 7, fun _ => hpos⟩

theorem State.storesOk.updateSlot {s : State} (c : Context) (h : s.storesOk) : (s.updateSlot c).storesOk := by
  obtain ⟨t, ht, e⟩ := s.updateSlot_eq c
  exact e ▸ h.of_eq rfl ht rfl rfl

theorem State.storesOk_moveInv : MoveInv True State.storesOk fun _ _ => True :=
  State.storesOk_runInv.moveInv (fun h hm hd hf => h.of_eq hf (congrArg _ hm.1) hd.1 hd.2)
    State.storesOk.append State.storesOk.updateSlot

theorem State.storesOk.select {s : State} (h : s.storesOk) (n : Nat) :
    State.storesOk { s with cwu := (s.cwu.select n).1 } := by
  obtain ⟨hwin, htab, hring, -, -⟩ := h
  unfold Cwu.select
  split
  · next he =>
    exact ⟨hwin, htab, hring, Nat.zero_le 7, fun hne => absurd (List.isEmpty_iff.1 he) hne⟩
  · split
    · next hlt => exact ⟨hwin, htab, hring, by dsimp only; omega, fun _ => hlt⟩
    · next he _ =>
      have hpos : 0 < s.cwu.ring.length := List.length_pos_iff.2 (by simpa using he)
      exact ⟨hwin, htab, hring, by dsimp only; omega, fun _ => by dsimp only; omega⟩

theorem State.storesOk_atRest : KeptAtRest (fun _ => True) State.storesOk where
  powerOn := fun _ _ => by simp [State.storesOk, State.powerOn, State.reset, Mfe.reset, Mve.reset, Cwu.reset]
  pinned := fun {s} _ h => by
    obtain ⟨-, -, hring, -, -⟩ := h
    refine ⟨rfl, by simp [State.pinned, State.reset, Mve.reset], hring, Nat.zero_le 7, fun hne => ?_⟩
    exact List.length_pos_iff.2 hne
  assertReset := fun _ h => h
  watchOver := fun _ h => h
  advance := fun _ h => h
  loadValid := fun {s _ r} _ h _ hr => by
    obtain ⟨hwin, -, hring, hsel, hin⟩ := h
    refine State.storesOk_runInv.loadValid (State.storesOk.enterReady ⟨hwin, ?_, hring, hsel, hin⟩)
    simp [State.handOver, readImage_length hr]
  loadInvalid := fun _ h _ => h
  crystalFails := fun {s} _ h => by
    unfold State.crystalFails
    split
    · exact State.storesOk_runInv.trip _ h
    · exact h
  raise := fun _ h => h
  queue := fun _ h => h
  echo := fun _ h => h
  forget := fun _ h => h
  own := fun h => h
  lbi := fun h _ _ => h
  peers := fun _ h _ => h
  mfe := fun _ h hw => h.of_eq (by rw [h.1]; exact hw h.1) rfl rfl rfl
  selection := fun n _ h => h.select n
  newLiner := fun _ h => ⟨h.1, h.2.1, Nat.zero_le 8, Nat.zero_le 7, fun hne => absurd rfl hne⟩
  cap := fun _ _ h => h
  alePeriod := fun h => h
  writeGap := fun {s} n _ h => h.of_eq rfl (by simp [State.writeGap]) rfl rfl
  duplicate := fun _ h _ => State.storesOk_runInv.trip _ h

theorem State.storesOk_kept : Kept (fun _ => True) State.storesOk :=
  State.storesOk_runInv.kept State.storesOk_moveInv State.storesOk_atRest

/-- Settles O17: a period takes one count in and one out, a load brings 31 records behind the order record, and
an append keeps eight. -/
theorem storesKept : Obligations.StoresKept := fun _ _ h e => State.storesOk_kept.step h e

/-! ### The gap target -/

theorem State.gapOk.of_eq {s t : State} (h : s.gapOk) (hr : t.rsc.runState = s.rsc.runState)
    (hv : t.cfg.validity = s.cfg.validity) (hi : t.cfg.image = s.cfg.image)
    (hg : t.mve.gSet = s.mve.gSet) (ht : t.mve.table = s.mve.table) : t.gapOk := by
  simpa only [State.gapOk, State.loadCoherent, hr, hv, hi, hg, ht] using h

theorem State.gapOk_runInv : RunInv State.gapOk where
  events := fun h => h
  early := fun h => h.of_eq (by simp) (by simp) (by simp) (by simp) (by simp)
  changeRun := fun {s new} h hold hnew => by
    obtain ⟨hload, hrest⟩ := h
    refine ⟨hload.changeRun hold hnew, ?_⟩
    rw [State.changeRun_cfg, (s.changeRun_mve_stores new).1, (s.changeRun_mve_stores new).2]
    exact hrest
  rsc := fun h hr => h.of_eq hr rfl rfl rfl rfl
  zero := fun h => h
  attempts := fun _ h => h

/-- The order record is not one that update mode advances. -/
theorem advance_orderRecord (i j : Image) (g : Nat) : (orderRecord i g).advance j = orderRecord i g := rfl

/-- Update mode leaves the order slot of a loaded station. -/
theorem State.gapOk.updateSlot {s : State} (h : s.gapOk) (c : Context) : (s.updateSlot c).gapOk := by
  obtain ⟨hload, hok, hmin, hmax, hhead⟩ := h
  unfold State.updateSlot
  split
  · refine ⟨hload, hok, hmin, hmax, fun hv => ?_⟩
    have hrec := hhead hv
    cases hs : c.slot with
    | zero =>
      cases ht : s.mve.table with
      | nil => simp [ht] at hrec
      | cons r l =>
        rw [ht, List.head?_cons, Option.some_inj] at hrec
        simp [ht, Mve.record, hrec, advance_orderRecord]
    | succ n =>
      cases ht : s.mve.table with
      | nil => simp [ht] at hrec
      | cons r l => simpa [ht, hs] using hrec
  · exact ⟨hload, hok, hmin, hmax, hhead⟩

theorem State.gapOk_moveInv : MoveInv True State.gapOk fun _ _ => True :=
  State.gapOk_runInv.moveInv (fun h hm _ _ => h.of_eq rfl rfl rfl hm.2 hm.1) (fun _ h => h)
    fun c h => h.updateSlot c

theorem clampNat_bounds {lo hi : Nat} (h : lo ≤ hi) (x : Nat) :
    lo ≤ clampNat lo hi x ∧ clampNat lo hi x ≤ hi := by
  unfold clampNat
  split <;> (try split) <;> omega

theorem Image.ok.gMin_lt {i : Image} (h : i.ok = true) : i.gMin < i.gMax := by
  simp only [Image.ok, Image.relations, Bool.and_eq_true, decide_eq_true_eq] at h
  exact h.2.1.1.1.1.2

theorem Image.ok.gInit_bounds {i : Image} (h : i.ok = true) : i.gMin ≤ i.gInit ∧ i.gInit ≤ i.gMax := by
  simp only [Image.ok, Image.relations, Bool.and_eq_true, decide_eq_true_eq] at h
  exact ⟨h.2.1.1.1.2, h.2.1.1.2⟩

theorem State.gapOk_reset {s : State} (hi : s.cfg.image = Image.blank) (hg : s.mve.gSet = 0)
    (hr : s.rsc.runState = .offline) (hv : s.cfg.validity = .loading) : s.gapOk := by
  refine ⟨⟨fun _ => by simp [hv], fun _ => hr⟩, ?_, ?_, ?_, fun hc => by cases hv.symm.trans hc⟩
  · rw [hi]; decide
  · rw [hi, hg]; exact Nat.le_refl 0
  · rw [hi, hg]; exact Nat.zero_le 1

theorem State.gapOk_atRest : KeptAtRest (fun _ => True) State.gapOk where
  powerOn := fun _ _ => State.gapOk_reset rfl rfl rfl rfl
  pinned := fun _ _ => State.gapOk_reset rfl rfl rfl rfl
  assertReset := fun _ h => h
  watchOver := fun _ h => h
  advance := fun _ h => h
  loadValid := fun {s _ r} _ h _ hr => by
    have hok := readImage_ok hr
    obtain ⟨hmin, hmax⟩ := Image.ok.gInit_bounds hok
    refine State.gapOk_runInv.loadValid ⟨State.enterReady_loadCoherent rfl, ?_⟩
    unfold State.enterReady
    rw [State.changeRun_cfg, (State.changeRun_mve_stores _ _).1, (State.changeRun_mve_stores _ _).2]
    exact ⟨hok, hmin, hmax, fun _ => rfl⟩
  loadInvalid := fun {s} _ h hv =>
    ⟨⟨fun _ hc => (by cases hc), fun _ => h.1.loading hv⟩, h.2.1, h.2.2.1, h.2.2.2.1, fun hc => by cases hc⟩
  crystalFails := fun {s} _ h => by
    unfold State.crystalFails
    split
    · exact State.gapOk_runInv.trip _ (h.of_eq rfl rfl rfl rfl rfl)
    · exact h
  raise := fun _ h => h
  queue := fun _ h => h
  echo := fun _ h => h
  forget := fun _ h => h
  own := fun h => h
  lbi := fun h _ _ => h
  peers := fun _ h _ => h
  mfe := fun _ h _ => h
  selection := fun _ _ h => h
  newLiner := fun _ h => h
  cap := fun _ _ h => h
  alePeriod := fun h => h
  writeGap := fun {s} n _ h => by
    obtain ⟨hload, hok, -, -, hhead⟩ := h
    obtain ⟨hmin, hmax⟩ := clampNat_bounds (Image.ok.gMin_lt hok).le n
    refine ⟨hload, hok, hmin, hmax, fun hv => ?_⟩
    have hrec := hhead hv
    cases ht : s.mve.table with
    | nil => simp [ht] at hrec
    | cons r l => simp [State.writeGap, ht]
  duplicate := fun _ h _ => State.gapOk_runInv.trip _ h

theorem State.gapOk_kept : Kept (fun _ => True) State.gapOk :=
  State.gapOk_runInv.kept State.gapOk_moveInv State.gapOk_atRest

/-- Settles O18: only a load and SET_GAP write g_set, each with the order slot, and update mode does not advance
the order record. -/
theorem gapTargetKept : Obligations.GapTargetKept := fun _ _ h e => State.gapOk_kept.step h e

end Sys2Proof.Machine

/-! PROOFS. The feed command, the residue and the allowance after every step. -/

namespace Sys2Proof.Machine

/-! ### The bounds of one computation -/

/-- What `Image.ok` says of the parameters of the feed command. -/
theorem Image.ok.feed {i : Image} (h : i.ok = true) :
    0 < i.fMax ∧ i.uMin ≤ 500 ∧ i.aTerm ≤ 4000 ∧ i.rRed ≤ 1000 := by
  simp only [Image.ok, Image.rangesA, Image.rangesB, within, Bool.and_eq_true, decide_eq_true_eq] at h
  omega

theorem State.downstreamAllowance_le {s : State} (h : s.cfg.image.ok = true) :
    s.downstreamAllowance ≤ 4000 := by
  obtain ⟨-, -, ha, -⟩ := Image.ok.feed h
  rw [State.downstreamAllowance_eq]
  split
  · exact ha
  · exact min_le_left _ _

/-- A feed command that is 0 or within u_min..1000. -/
def Image.feedInRange (i : Image) (u : Nat) : Prop := u = 0 ∨ (i.uMin ≤ u ∧ u ≤ 1000)

theorem rampedFeed_inRange (i : Image) (uPrev a residue : Nat) (h : i.uMin ≤ 500) :
    i.feedInRange (rampedFeed i uPrev a residue).u := by
  have e := rampedFeed_u i uPrev a residue h
  dsimp only at e
  rw [e, Image.feedInRange]
  generalize (a * 1000 + residue) / i.fMax = raw
  split <;> omega

theorem feedRate_inRange {i : Image} {f : FeedStep} (h : i.feedInRange f.u) (cap : Option Nat) :
    i.feedInRange (feedRate i.uMin cap f).u := by
  cases cap with
  | none => exact h
  | some c =>
    rw [feedRate_some_u]
    unfold Image.feedInRange at h ⊢
    split
    · split <;> omega
    · exact h

/-- The feed command and its residue lie in their ranges. -/
theorem feedCommand_inRange {i : Image} (hok : i.ok = true) (cap : Option Nat) (uPrev a residue : Nat) :
    i.feedInRange (feedCommand i cap uPrev a residue).u ∧
      (feedCommand i cap uPrev a residue).residue < i.fMax := by
  obtain ⟨hf, hu, -, -⟩ := Image.ok.feed hok
  rcases Nat.eq_zero_or_pos a with rfl | ha
  · exact ⟨.inl rfl, hf⟩
  · rw [feedCommand_of_pos i cap uPrev residue ha]
    refine ⟨feedRate_inRange (rampedFeed_inRange i uPrev a residue hu) cap, ?_⟩
    rw [feedRate_residue_of_follows (rampedFeed_follows i uPrev a residue hu) cap]
    split
    · exact Nat.mod_lt _ hf
    · exact hf

/-- The results of the ALE lie in their ranges. -/
structure Ale.inRange (i : Image) (x : Ale) : Prop where
  cap : x.cap ≤ 1000
  allowance : x.a ≤ 4000
  feed : i.feedInRange x.u
  residue : x.residue < i.fMax

theorem Ale.inRange.zero {i : Image} {x : Ale} (h : x.inRange i) (hok : i.ok = true) : x.zero.inRange i :=
  ⟨h.cap, Nat.zero_le _, .inl rfl, (Image.ok.feed hok).1⟩

theorem State.compute_inRange {s : State} (hok : s.cfg.image.ok = true) (h : s.ale.inRange s.cfg.image) :
    s.compute.inRange s.cfg.image := by
  obtain ⟨hcap, ha, hu, hres⟩ := h
  have hdn : s.downstreamAllowance ≤ 4000 := State.downstreamAllowance_le hok
  have hrole : ∀ {x : Ale}, (x = s.computeCrusher ∨ x = s.computeFeeder ∨ x = s.computeBin) →
      x.inRange s.cfg.image := by
    rintro x (rfl | rfl | rfl)
    · exact ⟨hcap, (min_le_right _ _).trans hdn, hu, hres⟩
    · obtain ⟨hfu, hfr⟩ := feedCommand_inRange hok s.mve.rateCap s.ale.u s.computeFeeder.a s.ale.residue
      exact ⟨hcap, (min_le_right _ _).trans hdn, hfu, hfr⟩
    · refine ⟨hcap, (reduced_le _ (Image.ok.feed hok).2.2.2 _).trans ?_, hu, hres⟩
      rw [clampToNat, satNat_eq_min]
      exact min_le_left _ _
  unfold State.compute
  split
  · exact Ale.inRange.zero ⟨hcap, ha, hu, hres⟩ hok
  all_goals
    split
    · exact hrole (.inl rfl)
    · exact hrole (.inr (.inl rfl))
    · exact hrole (.inr (.inr rfl))

/-! ### The invariant -/

theorem State.feedOk_iff (s : State) :
    s.feedOk ↔ s.loadCoherent ∧ s.cfg.image.ok = true ∧ s.idleFeed ∧ s.ale.inRange s.cfg.image := by
  constructor
  · rintro ⟨hl, hok, hidle, hcap, ha, hu, hr⟩
    exact ⟨hl, hok, hidle, hcap, ha, hu, hr⟩
  · rintro ⟨hl, hok, hidle, hcap, ha, hu, hr⟩
    exact ⟨hl, hok, hidle, hcap, ha, hu, hr⟩

theorem State.feedOk.of_eq {s t : State} (h : s.feedOk) (hr : t.rsc.runState = s.rsc.runState)
    (hv : t.cfg.validity = s.cfg.validity) (hi : t.cfg.image = s.cfg.image) (ha : t.ale = s.ale) :
    t.feedOk := by
  simpa only [State.feedOk, State.loadCoherent, State.idleFeed, hr, hv, hi, ha] using h

/-- What the ALE has at zero but in RUNNING. -/
def Ale.isZero (x : Ale) : Prop :=
  x.a = 0 ∧ x.term = .hold ∧ x.u = 0 ∧ x.residue = 0 ∧ x.supply = false

theorem Ale.zero_isZero (x : Ale) : x.zero.isZero := ⟨rfl, rfl, rfl, rfl, rfl⟩

/-- A change of run state zeroes what RUNNING leaves. -/
theorem State.idleFeed.changeRun {s : State} (h : s.idleFeed) (new : RunState) :
    (s.changeRun new).idleFeed := by
  rcases s.changeRun_eq new with ⟨-, e⟩ | ⟨hne, l, e⟩
  · rw [e]; exact h
  · intro hnew
    rw [State.changeRun_runState] at hnew
    rw [e]
    change (s.ale.onRunState s.rsc.runState new).isZero
    unfold Ale.onRunState
    split
    · exact Ale.zero_isZero _
    · next hc => exact h fun hr => by simp [hr, hnew] at hc

theorem State.changeRun_ale_cases (s : State) (new : RunState) :
    (s.changeRun new).ale = s.ale ∨ (s.changeRun new).ale = s.ale.zero := by
  rcases s.changeRun_eq new with ⟨-, e⟩ | ⟨-, l, e⟩ <;> rw [e]
  · exact .inl rfl
  · exact s.ale.onRunState_cases _ _

theorem State.feedOk_runInv : RunInv State.feedOk where
  events := fun h => h
  early := fun h => h.of_eq (by simp) (by simp) (by simp) (by simp)
  changeRun := fun {s new} h hold hnew => by
    rw [State.feedOk_iff] at h ⊢
    obtain ⟨hload, hok, hidle, hale⟩ := h
    refine ⟨hload.changeRun hold hnew, by simpa using hok, hidle.changeRun new, ?_⟩
    rw [State.changeRun_cfg]
    rcases s.changeRun_ale_cases new with e | e <;> rw [e]
    · exact hale
    · exact hale.zero hok
  rsc := fun h hr => h.of_eq hr rfl rfl rfl
  zero := fun {s} h => by
    rw [State.feedOk_iff] at h ⊢
    obtain ⟨hload, hok, hidle, hale⟩ := h
    exact ⟨hload, hok, fun _ => Ale.zero_isZero _, hale.zero hok⟩
  attempts := fun _ h => h

theorem State.feedOk_reset {s : State} (hi : s.cfg.image = Image.blank) (ha : s.ale = Ale.reset)
    (hr : s.rsc.runState = .offline) (hv : s.cfg.validity = .loading) : s.feedOk := by
  rw [State.feedOk_iff, hi, State.idleFeed, ha]
  refine ⟨⟨fun _ => by simp [hv], fun _ => hr⟩, by decide, fun _ => ⟨rfl, rfl, rfl, rfl, rfl⟩, ?_⟩
  exact ⟨Nat.le_refl 1000, Nat.zero_le _, .inl rfl, Nat.zero_lt_one⟩

/-- The ALE's period action leaves its results in their ranges. -/
theorem State.feedOk.alePeriod {s : State} (h : s.feedOk) : s.alePeriod.feedOk := by
  rw [State.feedOk_iff] at h ⊢
  obtain ⟨hload, hok, hidle, hale⟩ := h
  refine ⟨hload, hok, ?_, ?_⟩
  · intro hne
    change s.aleResult.isZero
    unfold State.aleResult
    split
    · next hr => exact absurd hr hne
    · exact Ale.zero_isZero _
    all_goals exact hidle hne
  · change s.aleResult.inRange s.cfg.image
    unfold State.aleResult
    split
    · exact State.compute_inRange hok hale
    · exact hale.zero hok
    all_goals exact hale

theorem State.feedOk_atRest : KeptAtRest (fun _ => True) State.feedOk where
  powerOn := fun _ _ => State.feedOk_reset rfl rfl rfl rfl
  pinned := fun _ _ => State.feedOk_reset rfl rfl rfl rfl
  assertReset := fun _ h => h
  watchOver := fun _ h => h
  advance := fun _ h => h
  loadValid := fun {s _ r} _ h hv hr => by
    rw [State.feedOk_iff] at h
    obtain ⟨hload, -, hidle, hale⟩ := h
    have hok := readImage_ok hr
    have hz : s.ale.isZero := hidle fun hc => by cases (hload.loading hv).symm.trans hc
    have hin : s.ale.inRange r.1 :=
      ⟨hale.cap, hale.allowance, .inl hz.2.2.1, by rw [hz.2.2.2.1]; exact (Image.ok.feed hok).1⟩
    refine State.feedOk_runInv.loadValid ((State.feedOk_iff _).2 ⟨State.enterReady_loadCoherent rfl, ?_⟩)
    have hcfg : (s.handOver r.1 r.2).enterReady.cfg.image = r.1 := by
      rw [State.enterReady, State.changeRun_cfg]; rfl
    have hready : (s.handOver r.1 r.2).enterReady.idleFeed :=
      State.idleFeed.changeRun (s := { s.handOver r.1 r.2 with lbi := _, mfe := _ }) (fun _ => hz) _
    refine ⟨by rw [hcfg]; exact hok, hready, ?_⟩
    rw [hcfg, State.enterReady]
    rcases State.changeRun_ale_cases _ RunState.ready with e | e <;> rw [e]
    · exact hin
    · exact hin.zero hok
  loadInvalid := fun {s} _ h hv =>
    ⟨⟨fun _ hc => (by cases hc), fun _ => h.1.loading hv⟩, h.2⟩
  crystalFails := fun {s} _ h => by
    unfold State.crystalFails
    split
    · exact State.feedOk_runInv.trip _ (h.of_eq rfl rfl rfl rfl)
    · exact h
  raise := fun _ h => h
  queue := fun _ h => h
  echo := fun _ h => h
  forget := fun _ h => h
  own := fun h => h
  lbi := fun h _ _ => h
  peers := fun _ h _ => h
  mfe := fun _ h _ => h
  selection := fun _ _ h => h
  newLiner := fun _ h => h
  cap := fun {s} n _ h => by
    rw [State.feedOk_iff] at h ⊢
    obtain ⟨hload, hok, hidle, hale⟩ := h
    refine ⟨hload, hok, hidle, ⟨?_, hale.allowance, hale.feed, hale.residue⟩⟩
    dsimp only
    rw [satNat_eq_min]
    exact min_le_left _ _
  alePeriod := State.feedOk.alePeriod
  writeGap := fun _ _ h => h
  duplicate := fun _ h _ => State.feedOk_runInv.trip _ h

theorem State.feedOk_kept : Kept (fun _ => True) State.feedOk :=
  State.feedOk_runInv.kept
    (State.feedOk_runInv.moveInv (fun h _ _ _ => h) (fun _ h => h) fun {s} c h => by
      obtain ⟨t, -, e⟩ := s.updateSlot_eq c
      exact e ▸ h)
    State.feedOk_atRest

/-- Settles O19: a computation leaves the command, the residue and the allowance in their ranges, and RUNNING is
left with all of them zeroed. -/
theorem feedCommandKept : Obligations.FeedCommandKept := fun _ _ h e => State.feedOk_kept.step h e

end Sys2Proof.Machine

/-! PROOFS. Run state, hold set, results, moves and clock fit together after every step. The causes of the MVE
and the CWU follow their owners only at the end of an operation, so the other parts are kept on their own
first. -/

namespace Sys2Proof.Machine

/-- Run state, hold set, results, moves and clock fit together, but for the causes of the MVE and the CWU. -/
structure State.fits (s : State) : Prop where
  load : s.loadCoherent
  rsc : s.rsc.coherent
  idle : s.idleFeed
  moves : s.movesInGroup
  restart : s.restartCoherent

theorem State.coherent_iff (s : State) : s.coherent ↔ s.fits ∧ s.causesFollow := by
  constructor
  · rintro ⟨hl, hr, hi, hm, hc, hs⟩
    exact ⟨⟨hl, hr, hi, hm, hs⟩, hc⟩
  · rintro ⟨⟨hl, hr, hi, hm, hs⟩, hc⟩
    exact ⟨hl, hr, hi, hm, hc, hs⟩

/-! ### Changes of run state -/

theorem State.movesInGroup.inGroup {s : State} (h : s.movesInGroup)
    (ha : s.mve.active ≠ none ∨ s.cwu.attempts ≠ 0) : s.rsc.runState.inGroup = true := by
  by_contra hn
  obtain ⟨h1, -, h3⟩ := h (by simpa using hn)
  exact ha.elim (· h1) (· h3)

/-- Leaving the running group drops every chain and the clearing. -/
theorem State.movesInGroup.changeRun {s : State} (h : s.movesInGroup) (new : RunState) :
    (s.changeRun new).movesInGroup := by
  rcases s.changeRun_eq new with ⟨-, e⟩ | ⟨-, l, e⟩
  · rw [e]; exact h
  · intro hn
    rw [State.changeRun_runState] at hn
    rw [e]
    cases hg : s.rsc.runState.inGroup
    · obtain ⟨ha, hs, hc⟩ := h hg
      refine ⟨?_, ?_, ?_⟩
      · rcases s.mve.onRunState_cases s.rsc.runState new with e | e | e <;> dsimp only <;> rw [e]
        · exact ha
        · rfl
        · rfl
      · rcases s.mve.onRunState_cases s.rsc.runState new with e | e | e <;> dsimp only <;> rw [e]
        · exact hs
        · rfl
        · rfl
      · simp only [Cwu.onRunState, hg, Bool.false_and, Bool.false_eq_true, if_false]
        split <;> exact hc
    · have hm : (s.mve.onRunState s.rsc.runState new).active = none ∧
          (s.mve.onRunState s.rsc.runState new).stack = [] := by
        simp only [Mve.onRunState, hg, hn, Bool.not_false, Bool.and_self, if_true]
        split <;> exact ⟨rfl, rfl⟩
      refine ⟨hm.1, hm.2, ?_⟩
      simp only [Cwu.onRunState, hg, hn, Bool.not_false, Bool.and_self, if_true]
      split <;> rfl

/-- A change of run state to one of the running group. -/
theorem State.changeRun_inGroup {s : State} {new : RunState} (hnew : new.inGroup = true) :
    (s.changeRun new).mve = s.mve ∧ (s.changeRun new).cwu.attempts = s.cwu.attempts ∧
      (s.changeRun new).rsc = { s.rsc with runState := new } := by
  rcases s.changeRun_eq new with ⟨rfl, e⟩ | ⟨-, l, e⟩ <;> rw [e]
  · exact ⟨rfl, rfl, rfl⟩
  · have hne : (new == RunState.tripped) = false := by
      cases new with
      | tripped => cases hnew
      | offline | ready | starting | running | holding | stopping => rfl
    refine ⟨?_, ?_, ?_⟩
    · simp [Mve.onRunState, hne, hnew]
    · simp only [Cwu.onRunState, hnew, Bool.not_true, Bool.and_false, Bool.false_eq_true, if_false]
      split <;> rfl
    · simp [Rsc.onRunState, hnew]

theorem State.restartCoherent.of_eq {s t : State} (h : s.restartCoherent) (hc : t.cfg = s.cfg)
    (hr : t.rsc.runState = s.rsc.runState) (ht : t.rsc.tripCause = s.rsc.tripCause) :
    t.restartCoherent := by
  simpa only [State.restartCoherent, hc, hr, ht] using h

/-- A station that is neither OFFLINE nor TRIPPED is not one whose reset missed the crystal. -/
theorem State.restartCoherent.free {s : State} (h : s.restartCoherent) (hl : s.loadCoherent)
    (ho : s.rsc.runState ≠ .offline) (ht : s.rsc.runState ≠ .tripped ∨ s.cfg.clock = .crystal) :
    s.cfg.restartWatch = false ∧ s.cfg.crystalMissed = false := by
  have hv : s.cfg.validity = .valid := by
    by_contra hc
    exact ho (hl.2 hc)
  constructor
  · by_contra hc
    exact h.1 (by simpa using hc) hv
  · by_contra hc
    obtain ⟨hclock, htrip⟩ := h.2 (by simpa using hc)
    rcases ht with ht | ht
    · exact ht (htrip hv).1
    · cases hclock.symm.trans ht

theorem State.restartCoherent_of_free {s : State}
    (h : s.cfg.restartWatch = false ∧ s.cfg.crystalMissed = false) : s.restartCoherent := by
  simp [State.restartCoherent, h.1, h.2]

/-- A change of run state with an update of the RSC's other items. -/
theorem State.fits.changeTo {s : State} {new : RunState} {r : Rsc} (hl : s.loadCoherent)
    (hi : s.idleFeed) (hm : s.movesInGroup) (hold : s.rsc.runState ≠ .offline) (hnew : new ≠ .offline)
    (hr : r.runState = new) (hc : r.coherent)
    (hf : s.cfg.restartWatch = false ∧ s.cfg.crystalMissed = false) :
    State.fits { s.changeRun new with rsc := r } := by
  have hrun : r.runState = (s.changeRun new).rsc.runState := by rw [hr, State.changeRun_runState]
  refine ⟨(hl.changeRun hold hnew).of_eq hrun rfl, hc, ?_, ?_, ?_⟩
  · simpa only [State.idleFeed, hrun] using hi.changeRun new
  · simpa only [State.movesInGroup, hrun] using hm.changeRun new
  · exact State.restartCoherent_of_free (by simpa using hf)

theorem Rsc.coherent.of_not_inGroup {r : Rsc} (hs : r.subPhase.isSome ↔ r.runState = .starting)
    (ht : r.tripCause.isSome ↔ r.runState = .tripped) (hg : r.runState.inGroup = false)
    (hh : r.hold = HoldSet.empty) : r.coherent := by
  refine ⟨hs, ht, fun _ => hh, fun _ => hh, fun hc => ?_⟩
  rw [hc] at hg
  cases hg

theorem State.causesFollow_of_not_inGroup {s : State} (h : s.rsc.runState.inGroup = false) :
    s.causesFollow := fun hc => by cases h.symm.trans hc

theorem State.causesFollow.of_eq {s t : State} (h : s.causesFollow)
    (hr : t.rsc.runState = s.rsc.runState) (hh : s.rsc.hold.SameOwners t.rsc.hold)
    (hm : t.mve.feed = s.mve.feed) (hp : t.mve.parked.isSome = s.mve.parked.isSome)
    (ha : t.cwu.attempts = s.cwu.attempts) : t.causesFollow := by
  intro hg
  obtain ⟨h1, h2, h3⟩ := h (hr ▸ hg)
  exact ⟨hh.move.trans (by rw [h1, hm]), hh.moveFault.trans (by rw [h2, hp]),
    hh.tramp.trans (by rw [h3, ha])⟩

/-- The RSC after a trip. -/
def Rsc.ofTrip (c : TripCause) : Rsc where
  runState := .tripped
  subPhase := none
  hold := HoldSet.empty
  tripCause := some c
  startTimer := .stopped
  spinTimer := .stopped
  interlockTimer := .stopped
  drainTimer := .stopped

/-- What a trip is: none in OFFLINE and TRIPPED, elsewhere a change of run state with the RSC's items anew and
the event. -/
theorem State.trip_cases (s : State) (c : TripCause) :
    ((s.rsc.runState = .offline ∨ s.rsc.runState = .tripped) ∧ s.trip c = s) ∨
      (s.rsc.runState ≠ .offline ∧ s.rsc.runState ≠ .tripped ∧
        s.trip c = State.raise { s.changeRun .tripped with rsc := Rsc.ofTrip c } .trip) := by
  have hrsc : Rsc.mk (s.changeRun .tripped).rsc.runState none HoldSet.empty (some c) .stopped .stopped
      .stopped .stopped = Rsc.ofTrip c := by rw [State.changeRun_runState]; rfl
  by_cases ho : s.rsc.runState = .offline
  · exact .inl ⟨.inl ho, by simp [State.trip, ho]⟩
  · by_cases ht : s.rsc.runState = .tripped
    · exact .inl ⟨.inr ht, by simp [State.trip, ht]⟩
    · refine .inr ⟨ho, ht, ?_⟩
      rw [← hrsc]
      unfold State.trip
      split
      · next h => exact absurd h ho
      · next h => exact absurd h ht
      all_goals rfl

theorem Rsc.ofTrip_coherent (c : TripCause) : (Rsc.ofTrip c).coherent :=
  Rsc.coherent.of_not_inGroup ⟨(fun hc => by cases hc), fun hc => by cases hc⟩ ⟨fun _ => rfl, fun _ => rfl⟩
    rfl rfl

/-- A trip leaves what fits together fitting together. -/
theorem State.fits.trip {s : State} (h : s.fits) (c : TripCause) : (s.trip c).fits := by
  rcases s.trip_cases c with ⟨-, e⟩ | ⟨ho, ht, e⟩ <;> rw [e]
  · exact h
  · have hfit := State.fits.changeTo h.load h.idle h.moves ho (fun hc => by cases hc)
      (r := Rsc.ofTrip c) rfl (Rsc.ofTrip_coherent c) (h.restart.free h.load ho (.inl ht))
    exact ⟨hfit.load, hfit.rsc, hfit.idle, hfit.moves, hfit.restart⟩

theorem State.trip_causes {s : State} (h : s.causesFollow) (c : TripCause) : (s.trip c).causesFollow := by
  rcases s.trip_cases c with ⟨-, e⟩ | ⟨-, -, e⟩ <;> rw [e]
  · exact h
  · exact State.causesFollow_of_not_inGroup rfl

/-! ### Changes of the hold set -/

theorem HoldSet.isEmpty_iff (h : HoldSet) : h.isEmpty = true ↔ h = HoldSet.empty := by
  cases h
  simp [HoldSet.isEmpty, HoldSet.empty, and_assoc]

/-- What a change of the hold set does in the running group. -/
theorem State.setHold_effect {s : State} (h : HoldSet) (hg : s.rsc.runState.inGroup = true) :
    (s.setHold h).rsc.hold = h ∧ (s.setHold h).mve = s.mve ∧
      (s.setHold h).cwu.attempts = s.cwu.attempts ∧ (s.setHold h).rsc.runState.inGroup = true := by
  unfold State.setHold
  split
  · next hc =>
    rw [hg] at hc
    exact ⟨by simpa using hc, rfl, rfl, hg⟩
  · have hnew := RunState.withHold_inGroup _ h hg
    obtain ⟨hm, ha, hr⟩ := State.changeRun_inGroup
      (s := { s with
        ale := if s.rsc.hold.isEmpty && !h.isEmpty then s.ale.zero else s.ale
        rsc := { s.rsc with hold := h } }) hnew
    simp only [State.early_rsc, State.early_mve, State.early_cwu]
    refine ⟨by rw [hr], hm, ha, by rw [hr]; exact hnew⟩

theorem State.setHold_of_not_inGroup {s : State} (h : HoldSet) (hg : s.rsc.runState.inGroup = false) :
    s.setHold h = s := by
  simp [State.setHold, hg]

theorem Rsc.coherent.setHold {r : Rsc} (hc : r.coherent) (hg : r.runState.inGroup = true) (h : HoldSet) :
    Rsc.coherent { r with hold := h, runState := r.runState.withHold h } := by
  obtain ⟨hs, ht, -, -, -⟩ := hc
  have hin := RunState.withHold_inGroup _ h hg
  have hsub : r.subPhase.isSome ↔ r.runState.withHold h = .starting := by
    constructor
    · intro hsome; rw [hs.1 hsome] at hg; cases hg
    · intro hst; rw [hst] at hin; cases hin
  have htrip : r.tripCause.isSome ↔ r.runState.withHold h = .tripped := by
    constructor
    · intro hsome; rw [ht.1 hsome] at hg; cases hg
    · intro hst; rw [hst] at hin; cases hin
  refine ⟨hsub, htrip, (fun hn => by cases hin.symm.trans hn), fun hrun => ?_, fun hhold he => ?_⟩
  · by_contra hne
    have hb : h.isEmpty = false := by simpa [← HoldSet.isEmpty_iff] using hne
    cases hr : r.runState <;> simp [hr, RunState.withHold, hb] at hrun
  · have hb : h.isEmpty = true := (HoldSet.isEmpty_iff h).2 he
    cases hr : r.runState <;> simp [hr, RunState.withHold, hb] at hhold

theorem State.fits.early {s : State} (h : s.fits) : s.early.fits := by
  obtain ⟨l, e⟩ := s.early_eq
  rw [e]
  exact ⟨h.load, h.rsc, h.idle, h.moves, h.restart⟩

theorem State.fits.setHold {s : State} (h : s.fits) (k : HoldSet) : (s.setHold k).fits := by
  unfold State.setHold
  split
  · exact h
  · next hc =>
    obtain ⟨hl, hr, hi, hm, hs⟩ := h
    have hg : s.rsc.runState.inGroup = true := by
      simp only [Bool.or_eq_true, Bool.not_eq_true', not_or, Bool.not_eq_false] at hc
      exact hc.2
    have ho := RunState.ne_offline_of_inGroup hg
    have ht : s.rsc.runState ≠ .tripped := fun hc => by rw [hc] at hg; cases hg
    have hi1 : State.idleFeed
        { s with
          ale := if s.rsc.hold.isEmpty && !k.isEmpty then s.ale.zero else s.ale
          rsc := { s.rsc with hold := k } } := by
      intro hne
      change (ite _ _ _ : Ale).isZero
      split
      · exact Ale.zero_isZero _
      · exact hi hne
    refine State.fits.early ?_
    have hrsc := (State.changeRun_inGroup
      (s := { s with
        ale := if s.rsc.hold.isEmpty && !k.isEmpty then s.ale.zero else s.ale
        rsc := { s.rsc with hold := k } }) (RunState.withHold_inGroup _ k hg)).2.2
    have hfit := State.fits.changeTo (r := { s.rsc with hold := k, runState := s.rsc.runState.withHold k })
      (s := { s with
        ale := if s.rsc.hold.isEmpty && !k.isEmpty then s.ale.zero else s.ale
        rsc := { s.rsc with hold := k } })
      hl hi1 hm ho (RunState.withHold_ne_offline k ho) rfl (hr.setHold hg k) (hs.free hl ho (.inl ht))
    rw [← hrsc] at hfit
    exact hfit

/-- Bringing the causes to their owners leaves them following. -/
theorem State.syncHold_causes (s : State) : s.syncHold.causesFollow := by
  cases hg : s.rsc.runState.inGroup
  · rw [State.syncHold, State.setHold_of_not_inGroup _ hg]
    exact State.causesFollow_of_not_inGroup hg
  · obtain ⟨hh, hm, ha, -⟩ := State.setHold_effect
      { s.rsc.hold with
        move := s.mve.feed == .stop, moveFault := s.mve.parked.isSome, tramp := s.cwu.attempts != 0 } hg
    intro _
    rw [State.syncHold, hh, hm, ha]
    exact ⟨rfl, rfl, rfl⟩

/-! ### Moves -/

theorem State.fits.of_moves {s t : State} (h : s.fits) (hr : t.rsc = s.rsc) (hc : t.cfg = s.cfg)
    (ha : t.ale = s.ale)
    (hm : s.rsc.runState.inGroup = true ∨
      t.mve.active = s.mve.active ∧ t.mve.stack = s.mve.stack ∧ t.cwu.attempts = s.cwu.attempts) :
    t.fits := by
  obtain ⟨hl, hrsc, hi, hmv, hs⟩ := h
  refine ⟨hl.of_eq (by rw [hr]) (by rw [hc]), hr ▸ hrsc, ?_, ?_, hs.of_eq hc (by rw [hr]) (by rw [hr])⟩
  · simpa only [State.idleFeed, hr, ha] using hi
  · intro hn
    rw [hr] at hn
    rcases hm with hg | ⟨h1, h2, h3⟩
    · cases hg.symm.trans hn
    · rw [h1, h2, h3]; exact hmv hn

/-- Every move keeps what fits together; a context is active only in the running group. -/
theorem State.fits_moveInv : MoveInv True State.fits fun s _ => s.rsc.runState.inGroup = true where
  setHold := fun k h => h.setHold k
  trip := fun c h => h.trip c
  raise := fun _ h => h.of_moves rfl rfl rfl (.inr ⟨rfl, rfl, rfl⟩)
  quiet := fun h hm hd => h.of_moves rfl rfl rfl (.inr ⟨hm.active, hm.stack, hd.attempts⟩)
  account := fun _ h hd _ => h.of_moves rfl rfl rfl (.inr ⟨rfl, rfl, hd.attempts⟩)
  attempts := fun _ h ha => h.of_moves rfl rfl rfl (.inl (h.moves.inGroup (.inr ha)))
  append := fun _ _ h => h.of_moves rfl rfl rfl (.inr ⟨rfl, rfl, rfl⟩)
  slot := fun {s} c h => by
    obtain ⟨t, -, e⟩ := s.updateSlot_eq c
    exact e ▸ h.of_moves rfl rfl rfl (.inr ⟨rfl, rfl, rfl⟩)
  idle := fun {s} h => by
    cases hg : s.rsc.runState.inGroup
    · exact h.of_moves rfl rfl rfl (.inr ⟨(h.moves hg).1.symm, rfl, rfl⟩)
    · exact h.of_moves rfl rfl rfl (.inl hg)
  active := fun h ha => h.moves.inGroup (.inl (by simp [ha]))
  set := fun h hg => h.of_moves rfl rfl rfl (.inl hg)
  frame := fun hg _ _ hr => hr ▸ hg
  goesOn := fun hg _ => hg
  next := fun hg _ => hg
  grant := fun _ _ hg _ _ => hg
  push := fun {s c _} _ h ha _ =>
    have hg := h.moves.inGroup (.inl (by simp [ha]))
    ⟨h.of_moves rfl rfl rfl (.inl hg), hg⟩
  pop := fun h hg _ _ _ => ⟨h.of_moves rfl rfl rfl (.inl hg), hg⟩
  park := fun _ h ha _ _ _ _ _ => h.of_moves rfl rfl rfl (.inl (h.moves.inGroup (.inl (by simp [ha]))))
  unpark := fun _ hg _ _ => hg
  empty := fun h => h.of_moves rfl rfl rfl (.inr ⟨rfl, rfl, rfl⟩)

/-! ### Operations -/

theorem State.coherent.of_eq {s t : State} (h : s.coherent) (hr : t.rsc = s.rsc) (hc : t.cfg = s.cfg)
    (ha : t.ale = s.ale) (hact : t.mve.active = s.mve.active) (hst : t.mve.stack = s.mve.stack)
    (hp : t.mve.parked = s.mve.parked) (hat : t.cwu.attempts = s.cwu.attempts) : t.coherent := by
  rw [State.coherent_iff] at h ⊢
  refine ⟨h.1.of_moves hr hc ha (.inr ⟨hact, hst, hat⟩), h.2.of_eq (by rw [hr]) (hr ▸ ⟨rfl, rfl, rfl⟩) ?_
    (by rw [hp]) hat⟩
  simp only [Mve.feed, hact]

theorem State.fits.sync {s : State} (h : s.fits) : s.syncHold.coherent :=
  (State.coherent_iff _).2 ⟨h.setHold _, s.syncHold_causes⟩

theorem State.coherent.fits {s : State} (h : s.coherent) : s.fits := ((State.coherent_iff s).1 h).1

theorem State.coherent.trip {s : State} (h : s.coherent) (c : TripCause) : (s.trip c).coherent :=
  (State.coherent_iff _).2 ⟨h.fits.trip c, State.trip_causes ((State.coherent_iff s).1 h).2 c⟩

theorem State.coherent.setHold {s : State} (h : s.coherent) {k : HoldSet}
    (hk : s.rsc.hold.SameOwners k) : (s.setHold k).coherent := by
  refine (State.coherent_iff _).2 ⟨h.fits.setHold k, ?_⟩
  cases hg : s.rsc.runState.inGroup
  · rw [State.setHold_of_not_inGroup _ hg]
    exact State.causesFollow_of_not_inGroup hg
  · obtain ⟨hh, hm, ha, -⟩ := State.setHold_effect k hg
    obtain ⟨h1, h2, h3⟩ := ((State.coherent_iff s).1 h).2 hg
    intro _
    rw [hh, hm, ha]
    exact ⟨hk.move.trans h1, hk.moveFault.trans h2, hk.tramp.trans h3⟩

theorem State.coherent.reduceTest {s : State} (h : s.coherent) : s.reduceTest.coherent := by
  rcases s.reduceTest_cases with e | ⟨c, ha, -, e⟩ <;> rw [e]
  · exact h
  · exact State.fits.sync
      (State.fits_moveInv.finish (State.fits_moveInv.settled h.fits (State.fits_moveInv.active h.fits ha)))

theorem State.coherent.stopTest {s : State} (h : s.coherent) : s.stopTest.coherent := by
  rcases s.stopTest_cases with e | ⟨c, ha, -, e⟩ <;> rw [e]
  · exact h
  · exact State.fits.sync
      (State.fits_moveInv.finish (State.fits_moveInv.settled h.fits (State.fits_moveInv.active h.fits ha)))

theorem State.coherent.request {s : State} (h : s.coherent) (r : Requester) : (s.request r).coherent := by
  rcases s.request_cases r with e | ⟨-, e⟩ <;> rw [e]
  · exact h
  · exact State.fits.sync (State.fits_moveInv.grantPoint r (State.fits_moveInv.putRequest r h.fits))

/-- A clearing sets its count and its cause together. -/
theorem State.coherent.startClearing {s : State} (h : s.coherent)
    (hg : s.rsc.runState.inGroup = true) : s.startClearing.coherent := by
  have h1 : State.fits { s with cwu := { s.cwu with attempts := 1 } } :=
    h.fits.of_moves rfl rfl rfl (.inl hg)
  have h2 : State.coherent (State.setHold { s with cwu := { s.cwu with attempts := 1 } }
      { s.rsc.hold with tramp := true }) := by
    refine (State.coherent_iff _).2 ⟨h1.setHold _, ?_⟩
    obtain ⟨hh, hm, ha, -⟩ := State.setHold_effect
      (s := { s with cwu := { s.cwu with attempts := 1 } }) { s.rsc.hold with tramp := true } hg
    obtain ⟨hmove, hpark, -⟩ := ((State.coherent_iff s).1 h).2 hg
    intro _
    rw [hh, hm, ha]
    exact ⟨hmove, hpark, rfl⟩
  unfold State.startClearing
  dsimp only
  rcases State.changeHold_cases { s with cwu := { s.cwu with attempts := 1 } }
    { s.rsc.hold with tramp := true } with e | e <;> rw [e]
  · exact h2.request _
  · exact h2.reduceTest.request _

theorem State.coherent.gapNotice {s : State} (h : s.coherent) : s.gapNotice.coherent := by
  unfold State.gapNotice
  split
  · exact h
  · next ha =>
    split
    · exact (State.fits_moveInv.driveSample _ _ h.fits ha).sync
    · exact (State.fits_moveInv.verifySample _ _ h.fits ha).sync
    · exact (State.fits_moveInv.touchSample trivial h.fits ha).sync
    · exact h

theorem State.coherent.loadNotice {s : State} (h : s.coherent) : s.loadNotice.coherent := by
  have hs : State.coherent { s with cwu := s.cwu.countLoad s.cfg.image.pTouch s.mfe.load } :=
    h.of_eq rfl rfl rfl rfl rfl rfl rfl
  unfold State.loadNotice
  split
  · exact h
  · next ha =>
    split
    · dsimp only
      split
      · exact (State.fits_moveInv.contact trivial hs.fits ha).sync
      · exact hs
    · exact h.stopTest

theorem State.coherent.settleExpired {s : State} (h : s.coherent) : s.settleExpired.coherent := by
  unfold State.settleExpired
  split
  · exact h
  · split
    · exact (State.fits_moveInv.fault _ h.fits).sync
    · exact h

theorem State.coherent.recordExpired {s : State} (h : s.coherent) : s.recordExpired.coherent := by
  unfold State.recordExpired
  split
  · exact h
  · split
    · exact (State.fits_moveInv.fault _ h.fits).sync
    · exact (State.fits_moveInv.fault _ h.fits).sync
    all_goals exact h

theorem State.coherent.remainingExpired {s : State} (h : s.coherent) : s.remainingExpired.coherent := by
  unfold State.remainingExpired
  split
  · exact h
  · next ha =>
    split
    · exact (State.fits_moveInv.complete h.fits ha rfl rfl rfl (.inl rfl)).sync
    · exact h

theorem State.coherent.retry {s : State} {c : Context} (h : s.coherent) (ht : s.retryTaken = true)
    (hp : s.mve.parked = some c) : (s.retry c).coherent := by
  simp only [State.retryTaken, Bool.and_eq_true, Option.isNone_iff_eq_none] at ht
  have hl : State.fits (State.loadActive { s with mve := { s.mve with parked := none } }
      { c with executed := 0 }).1 :=
    State.fits_moveInv.loadActive (c := { c with executed := 0 }) (State.fits_moveInv.empty h.fits)
      (State.fits_moveInv.unpark (c := c) h.fits ht.1.1 ht.2 hp)
  unfold State.retry
  dsimp only
  split
  · exact (State.fits_moveInv.retryPreempt hl).sync
  · exact (State.fits_moveInv.fault _ hl).sync

theorem State.coherent.discardFault {s : State} (h : s.coherent) : s.discardFault.coherent :=
  (State.fits_moveInv.select (State.fits_moveInv.empty h.fits)).sync

/-! ### The run-state controller -/

/-- A change of run state from OFFLINE-free ground to a state outside the running group. -/
theorem State.coherent.leave {s : State} {new : RunState} {r : Rsc} (h : s.coherent)
    (hold : s.rsc.runState ≠ .offline)
    (ht : s.rsc.runState ≠ .tripped ∨ s.cfg.clock = .crystal)
    (hnew : new = .ready ∨ new = .starting) (hr : r.runState = new)
    (hs : r.subPhase.isSome ↔ r.runState = .starting) (htc : r.tripCause = none)
    (hh : r.hold = HoldSet.empty) : State.coherent { s.changeRun new with rsc := r } := by
  have hg : r.runState.inGroup = false := by rw [hr]; rcases hnew with rfl | rfl <;> rfl
  have hntrip : r.runState ≠ .tripped := by
    rw [hr]; rcases hnew with rfl | rfl <;> exact fun hc => by cases hc
  refine (State.coherent_iff _).2 ⟨State.fits.changeTo h.fits.load h.fits.idle h.fits.moves hold ?_ hr
    (Rsc.coherent.of_not_inGroup hs ?_ hg hh) (h.fits.restart.free h.fits.load hold ht),
    State.causesFollow_of_not_inGroup hg⟩
  · rcases hnew with rfl | rfl <;> exact fun hc => by cases hc
  · rw [htc]
    exact ⟨(fun hc => by cases hc), fun hc => absurd hc hntrip⟩

/-- What a change of run state leaves of the RSC's other items. -/
theorem State.changeRun_rsc (s : State) (new : RunState) :
    (s.changeRun new).rsc.subPhase = s.rsc.subPhase ∧ (s.changeRun new).rsc.tripCause = s.rsc.tripCause ∧
      ((s.changeRun new).rsc.hold = s.rsc.hold ∨ (s.changeRun new).rsc.hold = HoldSet.empty) ∧
      (s.rsc.runState.inGroup = true → new.inGroup = false →
        (s.changeRun new).rsc.hold = HoldSet.empty) := by
  rcases s.changeRun_eq new with ⟨rfl, e⟩ | ⟨-, l, e⟩ <;> rw [e]
  · exact ⟨rfl, rfl, .inl rfl, fun h1 h2 => by cases h1.symm.trans h2⟩
  · dsimp only [Rsc.onRunState]
    split
    · exact ⟨rfl, rfl, .inr rfl, fun _ _ => rfl⟩
    · next hc =>
      refine ⟨rfl, rfl, .inl rfl, fun h1 h2 => ?_⟩
      simp [h1, h2] at hc

/-- Outside the running group a change of run state leaves the hold set empty. -/
theorem State.fits.changeRun_hold {s : State} (h : s.fits) (new : RunState)
    (hn : new.inGroup = false) : (s.changeRun new).rsc.hold = HoldSet.empty := by
  obtain ⟨-, -, hold, hgroup⟩ := s.changeRun_rsc new
  cases hg : s.rsc.runState.inGroup
  · rcases hold with e | e
    · rw [e]; exact h.rsc.2.2.1 hg
    · exact e
  · exact hgroup hg hn

theorem State.fits.subPhase_none {s : State} (h : s.fits) (hr : s.rsc.runState ≠ .starting) :
    s.rsc.subPhase = none := by
  by_contra hc
  exact hr (h.rsc.1.1 (Option.isSome_iff_ne_none.2 hc))

theorem State.fits.tripCause_none {s : State} (h : s.fits) (hr : s.rsc.runState ≠ .tripped) :
    s.rsc.tripCause = none := by
  by_contra hc
  exact hr (h.rsc.2.1.1 (Option.isSome_iff_ne_none.2 hc))

theorem State.coherent.leaveGroup {s : State} (h : s.coherent) (hg : s.rsc.runState.inGroup = true) :
    s.leaveGroup.coherent := by
  have ho := RunState.ne_offline_of_inGroup hg
  have ht : s.rsc.runState ≠ .tripped := fun hc => by rw [hc] at hg; cases hg
  have hst : s.rsc.runState ≠ .starting := fun hc => by rw [hc] at hg; cases hg
  obtain ⟨hsub, htc, -⟩ := s.changeRun_rsc .ready
  have hrun := s.changeRun_runState .ready
  refine h.leave (r := (s.changeRun .ready).rsc) ho (.inl ht) (.inl rfl) hrun ?_ ?_
    (h.fits.changeRun_hold _ rfl)
  · rw [hsub, hrun, h.fits.subPhase_none hst]
    exact ⟨(fun hc => by cases hc), fun hc => by cases hc⟩
  · rw [htc, h.fits.tripCause_none ht]

/-- A change of run state from READY, STARTING or TRIPPED to READY or STARTING. -/
theorem State.coherent.leaveTo {s : State} {new : RunState} {r : Rsc} (h : s.coherent)
    (hold : s.rsc.runState ≠ .offline)
    (ht : s.rsc.runState ≠ .tripped ∨ s.cfg.clock = .crystal)
    (hnew : new = .ready ∨ new = .starting) (hr : r.runState = (s.changeRun new).rsc.runState)
    (hs : r.subPhase.isSome ↔ new = .starting) (htc : r.tripCause = none)
    (hh : r.hold = (s.changeRun new).rsc.hold) : State.coherent { s.changeRun new with rsc := r } := by
  have hrun := hr.trans (s.changeRun_runState new)
  refine h.leave hold ht hnew hrun (hrun ▸ hs) htc (hh.trans (h.fits.changeRun_hold _ ?_))
  rcases hnew with rfl | rfl <;> rfl

theorem State.coherent.stopTurning {s : State} (h : s.coherent) (ht : s.rsc.runState.isTurning = true) :
    State.coherent { s.changeRun .stopping with
      rsc := { (s.changeRun .stopping).rsc with interlockTimer := .stopped } } := by
  have hg := RunState.inGroup_of_isTurning ht
  have ho := RunState.ne_offline_of_inGroup hg
  have hnt : s.rsc.runState ≠ .tripped := fun hc => by rw [hc] at hg; cases hg
  have hst : s.rsc.runState ≠ .starting := fun hc => by rw [hc] at hg; cases hg
  obtain ⟨hm, ha, hr⟩ := State.changeRun_inGroup (s := s) (new := .stopping) rfl
  refine (State.coherent_iff _).2 ⟨State.fits.changeTo h.fits.load h.fits.idle h.fits.moves ho
    (fun hc => by cases hc) (s.changeRun_runState _) ?_ (h.fits.restart.free h.fits.load ho (.inl hnt)),
    fun _ => ?_⟩
  · rw [hr]
    refine ⟨?_, ?_, fun hc => (by cases hc), fun hc => (by cases hc), fun hc => (by cases hc)⟩
    · simp [h.fits.subPhase_none hst]
    · simp [h.fits.tripCause_none hnt]
  · obtain ⟨h1, h2, h3⟩ := ((State.coherent_iff s).1 h).2 hg
    dsimp only
    rw [hm, ha, hr]
    exact ⟨h1, h2, h3⟩

theorem State.coherent.spin {s : State} (h : s.coherent) (hr : s.rsc.runState = .starting) :
    State.coherent { s with
      rsc := { s.rsc with startTimer := .stopped, subPhase := some .spinUp, spinTimer := .running 0 } } := by
  rw [State.coherent_iff] at h ⊢
  obtain ⟨⟨hl, ⟨-, hrsc⟩, hi, hm, hs⟩, hc⟩ := h
  exact ⟨⟨hl, ⟨⟨fun _ => hr, fun _ => rfl⟩, hrsc⟩, hi, hm, hs⟩, hc⟩

/-- Entry to the running group from STARTING. -/
theorem State.coherent.enterGroup {s : State} (h : s.coherent) (hr : s.rsc.runState = .starting) :
    s.enterGroup.coherent := by
  have ho : s.rsc.runState ≠ .offline := fun hc => by cases hr.symm.trans hc
  have hnt : s.rsc.runState ≠ .tripped := fun hc => by cases hr.symm.trans hc
  have hstates : s.enterStates.fits := by
    have hnew : (if s.entryHold.isEmpty then RunState.running else .holding) ≠ .offline := by
      split <;> exact fun hc => by cases hc
    have hin : (if s.entryHold.isEmpty then RunState.running else .holding).inGroup = true := by
      split <;> rfl
    obtain ⟨-, htc, -⟩ := s.changeRun_rsc (if s.entryHold.isEmpty then RunState.running else .holding)
    have hrun := s.changeRun_runState (if s.entryHold.isEmpty then RunState.running else .holding)
    have hfit := State.fits.changeTo
      (new := if s.entryHold.isEmpty then RunState.running else .holding)
      (r := { (s.changeRun (if s.entryHold.isEmpty then RunState.running else .holding)).rsc with
        subPhase := none, startTimer := .stopped, spinTimer := .stopped, hold := s.entryHold })
      h.fits.load h.fits.idle h.fits.moves ho hnew hrun ?_ (h.fits.restart.free h.fits.load ho (.inl hnt))
    · exact hfit.of_moves rfl rfl rfl (.inl (by dsimp only; rw [hrun]; exact hin))
    · refine ⟨?_, ?_, ?_, ?_, ?_⟩
      · dsimp only; rw [hrun]; split <;> exact ⟨(fun hc => by cases hc), fun hc => by cases hc⟩
      · dsimp only
        rw [htc, hrun, h.fits.tripCause_none hnt]
        split <;> exact ⟨(fun hc => by cases hc), fun hc => by cases hc⟩
      · dsimp only; rw [hrun, hin]; exact fun hc => by cases hc
      · dsimp only
        rw [hrun]
        split
        · next he => exact fun _ => (HoldSet.isEmpty_iff _).1 he
        · exact fun hc => by cases hc
      · dsimp only
        rw [hrun]
        split
        · exact fun hc => by cases hc
        · next he => exact fun _ hc => he ((HoldSet.isEmpty_iff _).2 hc)
  have hline : s.enterStates.evaluateInterlock.fits :=
    ⟨hstates.load, hstates.rsc, hstates.idle, hstates.moves, hstates.restart⟩
  have hreq : State.fits { s.enterStates.evaluateInterlock with
      mve := { s.enterStates.evaluateInterlock.mve with requests := s.entryRequests } } :=
    State.fits_moveInv.mve hline ⟨rfl, rfl, rfl, rfl, rfl⟩
  unfold State.enterGroup
  dsimp only
  split
  · exact (State.fits_moveInv.select hreq).sync.trip _
  · exact (State.fits_moveInv.select hreq).sync

/-! ### Resets, loads and time -/

theorem State.coherent_reset {s : State} (hr : s.rsc = Rsc.reset) (ha : s.ale = Ale.reset)
    (hm : s.mve = Mve.reset) (hn : s.cwu.attempts = 0) (hv : s.cfg.validity = .loading)
    (hc : s.cfg.crystalMissed = false) : s.coherent := by
  refine (State.coherent_iff _).2 ⟨⟨?_, ?_, ?_, ?_, ?_⟩, ?_⟩
  · simp [State.loadCoherent, hr, hv, Rsc.reset]
  · rw [hr]
    exact Rsc.coherent.of_not_inGroup ⟨(fun hc => by cases hc), (fun hc => by cases hc)⟩
      ⟨(fun hc => by cases hc), (fun hc => by cases hc)⟩ rfl rfl
  · rw [State.idleFeed, ha]; exact fun _ => ⟨rfl, rfl, rfl, rfl, rfl⟩
  · rw [State.movesInGroup, hm, hn]; exact fun _ => ⟨rfl, rfl, rfl⟩
  · simp [State.restartCoherent, hv, hc]
  · exact State.causesFollow_of_not_inGroup (by rw [hr]; rfl)

theorem Context.tick_feed (c : Context) : c.tick.feed = c.feed := by
  unfold Context.tick
  split <;> rfl

theorem State.coherent.advance {s : State} (h : s.coherent) : s.advance.coherent := by
  rw [State.coherent_iff] at h ⊢
  obtain ⟨⟨hl, hr, hi, hm, hs⟩, hc⟩ := h
  refine ⟨⟨hl, hr, hi, fun hn => ?_, hs⟩, hc.of_eq rfl ⟨rfl, rfl, rfl⟩ ?_ rfl rfl⟩
  · obtain ⟨h1, h2, h3⟩ := hm hn
    exact ⟨by simp [State.advance, h1], h2, h3⟩
  · cases ha : s.mve.active with
    | none => simp [State.advance, Mve.feed, ha]
    | some c => simp [State.advance, Mve.feed, ha, Context.tick_feed]

/-- The end of a load leaves OFFLINE for READY, and on the internal clock for TRIPPED with cause CLOCK. -/
theorem State.coherent.loadValid {s : State} (h : s.coherent) (hv : s.cfg.validity = .loading)
    (i : Image) (records : List MoveRecord) : (s.loadValid i records).coherent := by
  have ho := h.fits.load.loading hv
  obtain ⟨hl, hr, hi, hm, hs⟩ := h.fits
  obtain ⟨hact, hstack, hatt⟩ := hm (by rw [ho]; rfl)
  have hready : State.loadCoherent (s.handOver i records).enterReady ∧
      (s.handOver i records).enterReady.rsc.coherent ∧ (s.handOver i records).enterReady.idleFeed ∧
      (s.handOver i records).enterReady.movesInGroup := by
    refine ⟨State.enterReady_loadCoherent rfl, ?_,
      State.idleFeed.changeRun (s := { s.handOver i records with lbi := _, mfe := _ }) hi _,
      State.movesInGroup.changeRun (s := { s.handOver i records with lbi := _, mfe := _ })
        (fun _ => ⟨hact, hstack, hatt⟩) _⟩
    unfold State.enterReady
    rcases State.changeRun_eq
      { s.handOver i records with
        lbi := { (s.handOver i records).lbi with periodTimer := .running 0 }
        mfe := { (s.handOver i records).mfe with sampleBase := .running 0 } } .ready
      with ⟨hc, -⟩ | ⟨-, l, e⟩
    · cases ho.symm.trans hc
    · rw [e]
      have hrsc : (s.rsc.onRunState .ready) = { s.rsc with runState := .ready } := by
        simp [Rsc.onRunState, ho, RunState.inGroup]
      change (s.rsc.onRunState .ready).coherent
      rw [hrsc]
      refine Rsc.coherent.of_not_inGroup ?_ ?_ rfl (hr.2.2.1 (by rw [ho]; rfl))
      · have : s.rsc.subPhase = none := h.fits.subPhase_none (by simp [ho])
        simp [this]
      · have : s.rsc.tripCause = none := h.fits.tripCause_none (by simp [ho])
        simp [this]
  have hrun : (s.handOver i records).enterReady.rsc.runState = .ready := State.changeRun_runState _ _
  have hcfg : (s.handOver i records).enterReady.cfg = (s.handOver i records).cfg := State.changeRun_cfg _ _
  obtain ⟨h1, h2, h3, h4⟩ := hready
  unfold State.loadValid
  dsimp only
  split
  · next hclock =>
    have hmiss : s.cfg.crystalMissed = false := by
      rw [hcfg] at hclock
      by_contra hc
      cases (hs.2 (by simpa using hc)).1.symm.trans hclock
    exact (State.coherent_iff _).2 ⟨⟨h1, h2, h3, h4, State.restartCoherent_of_free (by
      rw [hcfg]; exact ⟨rfl, hmiss⟩)⟩, State.causesFollow_of_not_inGroup (by rw [hrun]; rfl)⟩
  · next hclock =>
    rw [hcfg] at hclock
    rcases State.trip_cases (s.handOver i records).enterReady .clock with ⟨hc | hc, -⟩ | ⟨-, -, e⟩
    · cases hrun.symm.trans hc
    · cases hrun.symm.trans hc
    · rw [e]
      refine (State.coherent_iff _).2 ⟨⟨?_, Rsc.ofTrip_coherent _, ?_, ?_, ?_⟩,
        State.causesFollow_of_not_inGroup rfl⟩
      · have hl1 := h1.changeRun (new := .tripped) (by rw [hrun]; exact fun hc => by cases hc)
          (fun hc => by cases hc)
        exact hl1.of_eq (State.changeRun_runState _ _).symm rfl
      · exact fun hne => h3.changeRun .tripped (by rw [State.changeRun_runState]; exact hne)
      · exact fun hng => h4.changeRun .tripped (by rw [State.changeRun_runState]; exact hng)
      · refine ⟨fun hc => ?_, fun _ => ⟨?_, fun _ => ⟨rfl, rfl⟩⟩⟩
        · change (State.changeRun _ _).cfg.restartWatch = true at hc
          rw [State.changeRun_cfg, hcfg] at hc
          cases hc
        · change (State.changeRun _ _).cfg.clock = .internal
          rw [State.changeRun_cfg, hcfg]
          exact hclock

/-- The failure of the crystal trips with cause CLOCK, but for the one that a reset found. -/
theorem State.coherent.crystalFails {s : State} (h : s.coherent) : s.crystalFails.coherent := by
  unfold State.crystalFails
  split
  · next hclock =>
    have hmiss : s.cfg.crystalMissed = false := by
      by_contra hc
      cases (h.fits.restart.2 (by simpa using hc)).1.symm.trans hclock
    refine State.coherent.trip ?_ _
    rw [State.coherent_iff] at h ⊢
    obtain ⟨⟨hl, hr, hi, hm, hs⟩, hc⟩ := h
    exact ⟨⟨hl, hr, hi, hm, hs.1, fun hw => ⟨rfl, fun hv => absurd hv (hs.1 hw)⟩⟩, hc⟩
  · exact h

/-- An update of the CFG that ends the watch or leaves it. -/
theorem State.coherent.withCfg {s : State} {c : Cfg} {p : Pins} (h : s.coherent)
    (hv : c.validity = s.cfg.validity)
    (hclock : c.clock = s.cfg.clock) (hmiss : c.crystalMissed = s.cfg.crystalMissed)
    (hw : c.restartWatch = true → s.cfg.restartWatch = true) :
    State.coherent { s with cfg := c, pins := p } := by
  rw [State.coherent_iff] at h ⊢
  obtain ⟨⟨hl, hr, hi, hm, hs⟩, hc⟩ := h
  refine ⟨⟨hl.of_eq rfl hv, hr, hi, hm, fun hwatch => ?_, fun hcm => ?_⟩, hc⟩
  · dsimp only; rw [hv]; exact hs.1 (hw hwatch)
  · dsimp only at hcm ⊢; rw [hclock, hv]; exact hs.2 (hmiss ▸ hcm)

theorem State.coherent.loadInvalid {s : State} (h : s.coherent) (hv : s.cfg.validity = .loading) :
    s.loadInvalid.coherent := by
  have ho := h.fits.load.loading hv
  rw [State.coherent_iff] at h ⊢
  obtain ⟨⟨-, hr, hi, hm, hs⟩, hc⟩ := h
  exact ⟨⟨⟨fun _ hc => (by cases hc), fun _ => ho⟩, hr, hi, hm, fun _ hc => (by cases hc),
    fun hcm => ⟨(hs.2 hcm).1, fun hc => by cases hc⟩⟩, hc⟩

/-- The ALE's period action leaves its results at zero but in RUNNING. -/
theorem State.coherent.alePeriod {s : State} (h : s.coherent) : s.alePeriod.coherent := by
  rw [State.coherent_iff] at h ⊢
  obtain ⟨⟨hl, hr, hi, hm, hs⟩, hc⟩ := h
  refine ⟨⟨hl, hr, fun hne => ?_, hm, hs⟩, hc⟩
  change s.aleResult.isZero
  unfold State.aleResult
  split
  · next hrun => exact absurd hrun hne
  · exact Ale.zero_isZero _
  all_goals exact hi hne

theorem State.coherent_atRest : KeptAtRest (fun _ => True) State.coherent where
  powerOn := fun _ _ => State.coherent_reset rfl rfl rfl rfl rfl rfl
  pinned := fun _ _ => State.coherent_reset rfl rfl rfl rfl rfl rfl
  assertReset := fun _ h => h.withCfg rfl rfl rfl fun hw => by
    simp only [Cfg.assertReset, Bool.and_eq_true] at hw
    exact hw.2
  watchOver := fun _ h => h.withCfg rfl rfl rfl fun hw => by cases hw
  advance := fun _ => State.coherent.advance
  loadValid := fun _ h hv _ => h.loadValid hv _ _
  loadInvalid := fun _ => State.coherent.loadInvalid
  crystalFails := fun _ => State.coherent.crystalFails
  raise := fun _ h => h
  queue := fun _ h => h
  echo := fun _ h => h
  forget := fun _ h => h
  own := fun h => h
  lbi := fun h _ _ => h
  peers := fun _ h _ => h
  mfe := fun _ h _ => h
  selection := fun {s} n _ h => by
    refine h.of_eq rfl rfl rfl rfl rfl rfl ?_
    unfold Cwu.select
    split
    · rfl
    · split <;> rfl
  newLiner := fun _ h => h
  cap := fun {s} n _ h => by
    rw [State.coherent_iff] at h ⊢
    obtain ⟨⟨hl, hr, hi, hm, hs⟩, hc⟩ := h
    exact ⟨⟨hl, hr, hi, hm, hs⟩, hc⟩
  alePeriod := State.coherent.alePeriod
  writeGap := fun _ _ h => h
  duplicate := fun {s} _ h _ =>
    State.coherent.trip (s := State.raise { s with lbi := _ } .duplicateNumber) h _

theorem State.coherent_kept : Kept (fun _ => True) State.coherent :=
  { State.coherent_atRest with
    cwu := fun h hd => h.of_eq rfl rfl rfl rfl rfl rfl hd.attempts
    timers := fun h _ => h
    trip := fun c h => h.trip c
    setHold := fun h hk => h.setHold hk
    startClearing := State.coherent.startClearing
    reduceTest := State.coherent.reduceTest
    stopTest := State.coherent.stopTest
    request := fun r h => h.request r
    gapNotice := fun _ => State.coherent.gapNotice
    loadNotice := fun _ => State.coherent.loadNotice
    settleExpired := State.coherent.settleExpired
    recordExpired := State.coherent.recordExpired
    remainingExpired := State.coherent.remainingExpired
    retry := State.coherent.retry
    discardFault := State.coherent.discardFault
    enterGroup := State.coherent.enterGroup
    spin := State.coherent.spin
    start := fun {s} h hr => h.leaveTo (by simp [hr]) (.inl (by simp [hr])) (.inr rfl) rfl
      ⟨fun _ => rfl, fun _ => rfl⟩
      ((s.changeRun_rsc _).2.1.trans (h.fits.tripCause_none (by simp [hr]))) rfl
    stopStarting := fun {s} h hr => h.leaveTo (by simp [hr]) (.inl (by simp [hr])) (.inl rfl) rfl
      ⟨fun hc => (by cases hc), fun hc => (by cases hc)⟩
      ((s.changeRun_rsc _).2.1.trans (h.fits.tripCause_none (by simp [hr]))) rfl
    stopTurning := State.coherent.stopTurning
    leaveGroup := State.coherent.leaveGroup
    clearTrip := fun {s} _ h hr hclock => h.leaveTo (by simp [hr]) (.inr hclock) (.inl rfl) rfl
      (by
        dsimp only
        rw [(s.changeRun_rsc _).1, h.fits.subPhase_none (by simp [hr])]
        exact ⟨fun hc => (by cases hc), fun hc => (by cases hc)⟩)
      rfl rfl
    startLimit := fun {s} h hr => h.leaveTo (by simp [hr]) (.inl (by simp [hr])) (.inl rfl) rfl
      ⟨fun hc => (by cases hc), fun hc => (by cases hc)⟩
      ((s.changeRun_rsc _).2.1.trans (h.fits.tripCause_none (by simp [hr]))) rfl }

/-- Settles O12: a change of run state brings every item with it, an operation of the MVE or the CWU ends with
the causes brought to their owners, and CLEAR_TRIP, the one way out of TRIPPED, is received on the crystal
alone. -/
theorem coherenceKept : Obligations.CoherenceKept := fun _ _ h e => State.coherent_kept.step h e

end Sys2Proof.Machine

/-! PROOFS. Resets: what they leave, what a held part takes, and the invariants right after one. -/

namespace Sys2Proof.Machine

/-- Settles O1: it is how a step is defined. -/
theorem stepRunsFrontCommand : Obligations.StepRunsFrontCommand := fun s c rest h => by
  simp [step, h]

theorem Cfg.held_iff (c : Cfg) : c.held = true ↔ c.asserted ≠ .released := by
  unfold Cfg.held
  cases c.asserted <;> simp

/-- A command other than a reset is the effect of an event. -/
theorem exec_eq_event (i : Instr) (s : State) (h : i.isReset = false) : ∃ f, exec i s = s.event f := by
  cases i
  case powerOnReset | pinReset | resetAsserted => cases h
  case imageLoadEnd bytes => exact ⟨fun t => t.imageLoadEnd bytes, rfl⟩
  case receivedByte byte err => exact ⟨fun t => t.mediumByte byte err, rfl⟩
  all_goals exact ⟨_, rfl⟩

/-- Which resets are left asserted after the release of one. -/
theorem ResetLines.assert_release (r : ResetLines) :
    r.assert = (if r = .released then .one else .both) ∧
    (r.release .powerOn = .released ↔ r = .released ∨ r = .one ∨ r = .only .powerOn) ∧
    (r.release .powerOn = .only .pin ↔ r = .both ∨ r = .only .pin) ∧
    (r.release .pin = .released ↔ r = .released ∨ r = .one ∨ r = .only .pin) ∧
    (r.release .pin = .only .powerOn ↔ r = .both ∨ r = .only .powerOn) := by
  rcases r with _ | _ | (_ | _) | _ <;> decide

/-- Settles O3: every command but the resets goes through `State.event`, which a held part leaves alone. -/
theorem heldPartTakesNothing : Obligations.HeldPartTakesNothing := by
  refine ⟨fun i s hi hs => ?_, fun _ => rfl, Cfg.held_iff, ResetLines.assert_release, ?_⟩
  · obtain ⟨f, e⟩ := exec_eq_event i s hi
    rw [e, s.event_of_held f hs]
  · rintro i k s t (⟨rfl, rfl⟩ | ⟨rfl, rfl⟩) e <;> cases e <;> rfl

/-! ### The values that resets leave -/

theorem EventSet.has_zero (k : EventKind) : EventSet.has 0#20 k = false := by
  simp [EventSet.has]

theorem EventSet.has_single (j k : EventKind) : (EventSet.single j).has k = (j == k) := by
  have h := EventSet.has_add 0#20 j k
  simpa [EventSet.add, EventSet.has_zero] using h

/-- Of the pending events a pin reset keeps LINER_WORN. -/
theorem Evu.pinReset_has (e : Evu) (k : EventKind) :
    e.pinReset.events.has k = (e.events.has k && k == .linerWorn) := by
  have h : (e.events &&& EventSet.single .linerWorn).has k =
      (e.events.has k && (EventSet.single .linerWorn).has k) := BitVec.getLsbD_and
  rw [Evu.pinReset, h, EventSet.has_single, Bool.beq_comm]

/-- After a release the part is held only by the other reset. -/
theorem Cfg.afterReset_held (c : Cfg) (kind : ResetKind) :
    (c.afterReset kind).held = true ↔
      c.asserted = .both ∨ (kind = .powerOn ∧ c.asserted = .only .pin) ∨
        (kind = .pin ∧ c.asserted = .only .powerOn) := by
  rw [Cfg.held_iff]
  change c.asserted.release kind ≠ .released ↔ _
  cases kind <;> rcases c.asserted with _ | _ | (_ | _) | _ <;> decide

/-- The items of the blocks that both resets put at their reset values. -/
theorem reset_items {t : State} (hl : t.lbi = Lbi.reset) (hf : t.mfe = Mfe.reset) (ha : t.ale = Ale.reset)
    (hr : t.rsc = Rsc.reset) (hm : t.mve = Mve.reset) :
    (t.lbi.tx = .idle ∧ t.lbi.attempts = 0 ∧ t.lbi.earlyPending = false ∧ t.lbi.inhibit = false ∧
      t.lbi.rx = .hunt ∧ t.lbi.silent = 0 ∧ t.lbi.dupQuiet = 2 ∧ t.lbi.periodTimer = .stopped) ∧
    (t.mfe.load = 0 ∧ t.mfe.level = 0 ∧ t.mfe.raw = 0 ∧ t.mfe.gap = 0 ∧ t.mfe.gapValid = false ∧
      t.mfe.pulses = 0 ∧ t.mfe.window = List.replicate 16 0 ∧ t.mfe.watchdog = 0 ∧ t.mfe.q = 0 ∧
      t.mfe.overload = false ∧ t.mfe.overloadCount = 0 ∧ t.mfe.levelHigh = false ∧
      t.mfe.levelCount = 0 ∧ t.mfe.trampIn = false ∧ t.mfe.pullcordIn = false ∧
      t.mfe.runFbIn = false ∧ t.mfe.sampleBase = .stopped) ∧
    (t.ale.a = 0 ∧ t.ale.term = .hold ∧ t.ale.u = 0 ∧ t.ale.residue = 0 ∧ t.ale.supply = false ∧
      t.ale.cap = 1000) ∧
    (t.rsc.runState = .offline ∧ t.rsc.subPhase = none ∧ t.rsc.hold = HoldSet.empty ∧
      t.rsc.tripCause = none ∧ t.rsc.startTimer = .stopped ∧ t.rsc.spinTimer = .stopped ∧
      t.rsc.interlockTimer = .stopped ∧ t.rsc.drainTimer = .stopped) ∧
    (t.mve.active = none ∧ t.mve.stack = [] ∧ t.mve.parked = none ∧
      t.mve.requests = RequestSet.empty ∧ t.mve.tokenHigh = .orderGap ∧ t.mve.tokenLow = .start ∧
      t.mve.settleTimer = .stopped ∧ t.mve.recordTimer = .stopped) := by
  rw [hl, hf, ha, hr, hm]
  decide

/-- Settles O5: the state of a reset, read item by item. -/
theorem resetValues : Obligations.ResetValues := by
  rintro i s t (rfl | rfl) e <;> cases e
  · obtain ⟨hl, hf, ha, hr, hm⟩ := reset_items (t := s.powerOn) rfl rfl rfl rfl rfl
    refine ⟨hl, rfl, hf, ha, hr, hm, ⟨rfl, rfl, rfl, rfl, rfl, rfl, rfl⟩, rfl, fun k hk => ?_,
      ⟨rfl, rfl, rfl, (s.cfg.afterReset_held .powerOn).trans (by simp)⟩, rfl⟩
    cases (EventSet.has_zero k).symm.trans hk
  · obtain ⟨hl, hf, ha, hr, hm⟩ := reset_items (t := s.pinned) rfl rfl rfl rfl rfl
    refine ⟨hl, rfl, hf, ha, hr, hm, ⟨rfl, rfl, rfl, rfl, rfl, rfl, rfl⟩, rfl, fun k hk => ?_,
      ⟨rfl, rfl, rfl, (s.cfg.afterReset_held .pin).trans (by simp)⟩, rfl⟩
    have hk' : (s.evu.events.has k && k == .linerWorn) = true := (s.evu.pinReset_has k).symm.trans hk
    simp only [Bool.and_eq_true, beq_iff_eq] at hk'
    exact hk'.2

/-- Settles O6. -/
theorem powerOnResetRestores : Obligations.PowerOnResetRestores := fun s =>
  ⟨s.powerOn, rfl, rfl, rfl, rfl, rfl, rfl, rfl, rfl, rfl, rfl, rfl, rfl, rfl, rfl, rfl, rfl,
    EventSet.has_zero, rfl⟩

/-- Settles O7. -/
theorem pinResetKeepsRetained : Obligations.PinResetKeepsRetained := fun s =>
  ⟨s.pinned, rfl, rfl, rfl, rfl, rfl, rfl, rfl, rfl, rfl, rfl, rfl, rfl, rfl, rfl, rfl, s.evu.pinReset_has,
    rfl, rfl, rfl, rfl, rfl, rfl, rfl, rfl, rfl, rfl⟩

/-- Settles O11: each invariant's own lemma about the reset state. -/
theorem invariantsHoldAtReset : Obligations.InvariantsHoldAtReset := by
  have hbus : State.reset.busOk := State.busOk_stopped (fun hc => by cases hc) rfl rfl rfl rfl rfl
  have hctx : State.reset.mve.contextsOk := Mve.contextsOk_placeInv.reset
  exact ⟨State.coherent_reset rfl rfl rfl rfl rfl rfl, Mve.ordered_placeInv.reset, hctx.1, hctx.2,
    State.peersOk_reset rfl ⟨fun _ hc => (by cases hc), fun _ => rfl⟩, hbus.1, hbus.2,
    by simp [State.storesOk, State.reset, Mfe.reset, Mve.reset, Cwu.reset],
    State.gapOk_reset rfl rfl rfl rfl, State.feedOk_reset rfl rfl rfl rfl, rfl⟩

end Sys2Proof.Machine

/-! PROOFS. The outputs, the crystal's failure and the end of an image load. -/

namespace Sys2Proof.Machine

/-! ### Event sets -/

theorem EventKind.exists_bit {n : Nat} (h : n < 20) : ∃ k : EventKind, k.bit = n := by
  interval_cases n
  exacts [⟨.tramp, rfl⟩, ⟨.overload, rfl⟩, ⟨.levelHigh, rfl⟩, ⟨.scaleLost, rfl⟩, ⟨.gapSensor, rfl⟩,
    ⟨.moveFault, rfl⟩, ⟨.limit, rfl⟩, ⟨.startTimeout, rfl⟩, ⟨.interlockStop, rfl⟩, ⟨.trip, rfl⟩,
    ⟨.duplicateNumber, rfl⟩, ⟨.peerTableFull, rfl⟩, ⟨.busContention, rfl⟩, ⟨.busSilent, rfl⟩,
    ⟨.chainNotify, rfl⟩, ⟨.calibrated, rfl⟩, ⟨.calRejected, rfl⟩, ⟨.calSuspect, rfl⟩,
    ⟨.linerWorn, rfl⟩, ⟨.clockFail, rfl⟩]

/-- A set with no kind is the empty one. -/
theorem EventSet.eq_zero_iff (e : EventSet) : e = 0#20 ↔ ∀ k : EventKind, e.has k = false := by
  refine ⟨fun h k => h ▸ EventSet.has_zero k, fun h => BitVec.eq_of_getLsbD_eq fun n hn => ?_⟩
  obtain ⟨k, rfl⟩ := EventKind.exists_bit hn
  rw [BitVec.getLsbD_zero]
  exact h k

theorem EventSet.has_and (e f : EventSet) (k : EventKind) :
    EventSet.has (e &&& f) k = (e.has k && f.has k) := BitVec.getLsbD_and

/-- Two sets share a kind. -/
theorem EventSet.and_ne_zero_iff (e f : EventSet) :
    ((e &&& f) != 0#20) = true ↔ ∃ k : EventKind, e.has k = true ∧ f.has k = true := by
  rw [bne_iff_ne, Ne, EventSet.eq_zero_iff]
  simp [EventSet.has_and]

/-! ### Outputs -/

theorem State.drive_pinsOk (s : State) : s.drive.pinsOk := rfl

/-- ATTN outside OFFLINE. -/
theorem State.attnOutput_iff {s : State} (ho : s.rsc.runState ≠ .offline) :
    s.attnOutput = true ↔
      (s.cfg.crystalMissed = true ∧ Config.attnAfterRestart = true) ∨
        ∃ k : EventKind, s.evu.events.has k = true ∧ s.cfg.image.attnMask.has k = true := by
  simp only [State.attnOutput, Bool.or_eq_true, beq_iff_eq, ho, false_or,
    EventSet.and_ne_zero_iff, Cfg.attnUnmasked, Bool.and_eq_true]
  exact or_comm

/-- The outputs of a station that no reset holds, outside OFFLINE. -/
theorem State.outputs_of_free {s : State} (hh : s.cfg.held = false) (ho : s.rsc.runState ≠ .offline) :
    s.outputs =
      { run := s.rsc.runOutput
        raise := s.mve.drives .raise
        lower := s.mve.drives .lower
        feed := s.ale.u
        permit := s.rsc.permitOutput
        attn := s.attnOutput
        txEnable := s.lbi.tx == .sending } := by
  simp [State.outputs, hh, ho]

theorem State.outputs_of_held {s : State} (h : s.cfg.held = true ∨ s.rsc.runState = .offline) :
    s.outputs = Pins.reset := by
  rcases h with h | h <;> simp [State.outputs, h]

theorem Mve.drives_iff (m : Mve) (d : Direction) :
    m.drives d = true ↔ ∃ c, m.active = some c ∧ c.phase = .drive d := by
  unfold Mve.drives
  cases m.active <;> simp

/-- No context drives both ways. -/
theorem Mve.drives_exclusive (m : Mve) : (m.drives .raise && m.drives .lower) = false := by
  unfold Mve.drives
  cases m.active with
  | none => rfl
  | some c => rcases hp : c.phase with _ | _ | (_ | _) | _ | _ | _ <;> simp [hp]

theorem Rsc.runOutput_iff (r : Rsc) :
    r.runOutput = true ↔
      r.runState = .running ∨ r.runState = .holding ∨ r.runState = .stopping ∨
        (r.runState = .starting ∧ r.subPhase = some .spinUp) := by
  unfold Rsc.runOutput
  cases r.runState <;> simp [RunState.inGroup]

theorem Rsc.permitOutput_iff {r : Rsc} (ho : r.runState ≠ .offline) :
    r.permitOutput = true ↔ r.runState ≠ .tripped := by
  simp [Rsc.permitOutput, ho]

theorem Mve.drives_tick (m : Mve) (d : Direction) (a b : Timer) :
    Mve.drives { m with settleTimer := a, recordTimer := b, active := m.active.map Context.tick } d =
      m.drives d := by
  unfold Mve.drives
  cases m.active with
  | none => rfl
  | some c =>
    have : c.tick.phase = c.phase := by unfold Context.tick; split <;> rfl
    simp [this]

theorem State.pinsOk.queueDue {s : State} (h : s.pinsOk) (due : List Instr) : (s.queueDue due).pinsOk := by
  obtain ⟨order, -, e | e⟩ := s.queueDue_cases due <;> rw [e] <;> exact h

/-- A bit time leaves what the outputs show. -/
theorem State.pinsOk.tick {s : State} (h : s.pinsOk) : s.tick.pinsOk := by
  unfold State.tick
  split
  · exact h
  · next hh =>
    split
    · next ho =>
      have e : s.pins = Pins.reset := Eq.trans h (State.outputs_of_held (.inr (by simpa using ho)))
      exact e.trans (State.outputs_of_held (.inr (by simpa using ho))).symm
    · next ho =>
      have h1 : State.pinsOk { s.advance with cfg := s.cfg.tick } := by
        have hfree : s.cfg.held = false := by simpa using hh
        have hne : s.rsc.runState ≠ .offline := by simpa using ho
        refine Eq.trans h (Eq.trans (State.outputs_of_free hfree hne) ?_)
        rw [State.outputs_of_free (s := { s.advance with cfg := s.cfg.tick }) hfree hne]
        simp only [State.advance, Mve.drives_tick]
        rfl
      generalize ({ s.advance with cfg := s.cfg.tick } : State) = t at h1
      rcases t.queueAll_cases with ⟨-, e⟩ | ⟨-, -, e⟩ | ⟨-, -, e⟩ <;> rw [e]
      · exact h1.queueDue _
      · exact State.pinsOk.queueDue (s := t.drawn.startBit) h1 _
      · exact State.pinsOk.queueDue (s := t.drawn) h1 _

/-- Every step leaves the outputs showing the state. -/
theorem State.pinsOk.step {s t : State} (h : s.pinsOk) (e : step s = .next t) : t.pinsOk := by
  unfold Machine.step at e
  split at e
  · cases e; exact h.tick
  · next c rest _ =>
    cases hr : c.isReset
    · obtain ⟨f, hf⟩ := exec_eq_event c { s with pending := rest } hr
      rw [hf] at e
      unfold State.event at e
      split at e <;> cases e
      · exact h
      · exact State.drive_pinsOk _
    · cases c <;> cases hr <;> cases e
      · exact (State.outputs_of_held (.inr rfl)).symm
      · exact (State.outputs_of_held (.inr rfl)).symm
      · refine (State.outputs_of_held (.inl ?_)).symm
        rw [Cfg.held_iff]
        change s.cfg.asserted.assert ≠ .released
        cases s.cfg.asserted <;> exact fun hc => by cases hc

/-- Settles O20: a command drives the outputs at its end, a reset leaves those of R196, and a bit time changes
nothing that they show. -/
theorem outputsKept : Obligations.OutputsKept := by
  refine fun s t => ⟨⟨State.drive_pinsOk s, rfl⟩, fun h e => ?_⟩
  have ht : t.pins = t.outputs := h.step e
  have hexcl := t.mve.drives_exclusive
  refine ⟨ht, ?_, fun hh ho => ?_, fun hh => ht.trans (State.outputs_of_held hh)⟩
  · rw [ht]
    unfold State.outputs
    split
    · rfl
    · exact hexcl
  · rw [ht, State.outputs_of_free hh ho]
    exact ⟨Rsc.permitOutput_iff ho, t.rsc.runOutput_iff, State.attnOutput_iff ho, t.mve.drives_iff _,
      t.mve.drives_iff _, rfl, beq_iff_eq⟩

/-! ### What a change of run state keeps -/

theorem State.changeRun_of_ne {s : State} {new : RunState} (h : s.rsc.runState ≠ new) :
    s.changeRun new =
      State.early
        { s with
          lbi := s.lbi.onRunState s.rsc.runState new
          ale := s.ale.onRunState s.rsc.runState new
          rsc := s.rsc.onRunState new
          mve := s.mve.onRunState s.rsc.runState new
          cwu := s.cwu.onRunState s.cfg.image.role s.rsc.runState new } := by
  simp [State.changeRun, h]

/-- On the internal clock no telegram is begun. -/
theorem State.early_of_internal {s : State} (h : s.cfg.clock = .internal) : s.early = s :=
  State.early_of_not_sends (by simp [State.sends, h])

theorem Mve.SameTable.refl (m : Mve) : m.SameTable m := ⟨rfl, rfl, rfl, rfl, rfl⟩

theorem Cwu.SameRecords.refl (c : Cwu) : c.SameRecords c :=
  ⟨rfl, rfl, rfl, rfl, rfl, rfl, rfl, rfl, rfl, rfl, rfl⟩

theorem Mve.onRunState_sameTable (m : Mve) (old new : RunState) : m.SameTable (m.onRunState old new) := by
  rcases m.onRunState_cases old new with e | e | e <;> rw [e] <;> exact ⟨rfl, rfl, rfl, rfl, rfl⟩

theorem Cwu.onRunState_sameRecords (c : Cwu) (role : Role) (old new : RunState) :
    c.SameRecords (c.onRunState role old new) := by
  unfold Cwu.onRunState
  dsimp only
  split <;> split <;> exact ⟨rfl, rfl, rfl, rfl, rfl, rfl, rfl, rfl, rfl, rfl, rfl⟩

/-- A change of run state keeps the table, the tokens and ORDER_GAP. -/
theorem State.changeRun_sameTable (s : State) (new : RunState) :
    s.mve.SameTable (s.changeRun new).mve := by
  rcases s.changeRun_eq new with ⟨-, e⟩ | ⟨-, l, e⟩ <;> rw [e]
  · exact .refl _
  · exact s.mve.onRunState_sameTable _ _

/-- A change of run state keeps the records of the CWU. -/
theorem State.changeRun_sameRecords (s : State) (new : RunState) :
    s.cwu.SameRecords (s.changeRun new).cwu := by
  rcases s.changeRun_eq new with ⟨-, e⟩ | ⟨-, l, e⟩ <;> rw [e]
  · exact .refl _
  · exact s.cwu.onRunState_sameRecords _ _ _

/-- A change to TRIPPED aborts every chain. -/
theorem State.changeRun_tripped_mve {s : State} (h : s.rsc.runState ≠ .tripped) :
    (s.changeRun .tripped).mve = s.mve.abort := by
  rw [State.changeRun_of_ne h, State.early_mve]
  rfl

/-! ### The crystal -/

theorem State.changeRun_lbi_of_internal {s : State} {new : RunState} (h : s.cfg.clock = .internal) :
    (s.changeRun new).lbi = s.lbi.onRunState s.rsc.runState new := by
  by_cases hr : s.rsc.runState = new
  · have hl : s.lbi.onRunState s.rsc.runState new = s.lbi := by
      subst hr
      unfold Lbi.onRunState
      cases s.rsc.runState <;> rfl
    rw [hl]
    simp [State.changeRun, hr]
  · rw [State.changeRun_of_ne hr, State.early_of_internal (by exact h)]

/-- The state in which the crystal's failure hands its trip to the RSC. -/
def State.crystalLost (s : State) : State :=
  State.raise
    { s with
      cfg := { s.cfg with clock := .internal, crystalCount := 16, crystalMissed := s.cfg.restartWatch }
      lbi := s.lbi.stopSending.hunt }
    .clockFail

theorem State.crystalFails_of_crystal {s : State} (h : s.cfg.clock = .crystal) :
    s.crystalFails = s.crystalLost.trip .clock := by
  unfold State.crystalFails
  rw [h]
  rfl

/-- A trip on the internal clock leaves the LBI. -/
theorem State.trip_lbi_of_internal {s : State} (c : TripCause) (h : s.cfg.clock = .internal) :
    (s.trip c).lbi = s.lbi := by
  rcases s.trip_cases c with ⟨-, e⟩ | ⟨-, ht, e⟩ <;> rw [e]
  change (s.changeRun .tripped).lbi = s.lbi
  rw [State.changeRun_lbi_of_internal h]
  simp [Lbi.onRunState]

/-- Settles O10: the clock and the bus sides first, then a trip, which OFFLINE and TRIPPED do not take. -/
theorem crystalFailureStopsBus : Obligations.CrystalFailureStopsBus := by
  intro s hh
  have hexec : exec .crystalFailure s = .next s.crystalFails.drive := s.event_of_free _ hh
  refine ⟨fun hc => ?_, fun hc => ⟨_, hexec, ?_⟩⟩
  · rw [hexec]
    simp [State.crystalFails, hc]
  rw [State.crystalFails_of_crystal hc]
  have hkeep := s.crystalLost.trip_keeps .clock
  have hlbi : (s.crystalLost.trip .clock).lbi = s.lbi.stopSending.hunt :=
    State.trip_lbi_of_internal _ rfl
  have hevents := (s.crystalLost.trip_steady .clock).events
  refine ⟨hkeep.cfg, congrArg Lbi.tx hlbi, congrArg Lbi.attempts hlbi, congrArg Lbi.earlyPending hlbi,
    congrArg Lbi.rx hlbi, congrArg Lbi.rxBytes hlbi, hevents _ ?_, fun k hk => hevents _ ?_, fun ho => ?_,
    fun ho ht => ?_, s.crystalLost.trip_mfe _, hkeep.peers, hkeep.echo, hkeep.pending⟩
  · simp [State.crystalLost]
  · simp [State.crystalLost, hk]
  · rcases s.crystalLost.trip_cases .clock with ⟨-, e⟩ | ⟨ho', ht', -⟩
    · rw [e]; exact ⟨rfl, rfl, rfl, rfl⟩
    · exact absurd ho (not_or.2 ⟨ho', ht'⟩)
  · rcases s.crystalLost.trip_cases .clock with ⟨ho' | ho', -⟩ | ⟨-, -, e⟩
    · exact absurd ho' ho
    · exact absurd ho' ht
    · have hm : (s.crystalLost.trip .clock).mve = s.mve.abort := by
        rw [e]; exact State.changeRun_tripped_mve (s := s.crystalLost) ht
      have hc : s.cwu.SameRecords (s.crystalLost.trip .clock).cwu := by
        rw [e]; exact s.crystalLost.changeRun_sameRecords .tripped
      have hr : (s.crystalLost.trip .clock).rsc = Rsc.ofTrip .clock := by rw [e]; rfl
      refine ⟨hr, ?_, congrArg Mve.active hm, congrArg Mve.stack hm, congrArg Mve.parked hm, ?_, hc⟩
      · change (s.crystalLost.trip .clock).evu.events.has .trip = true
        rw [e]
        simp
      · change s.mve.SameTable (s.crystalLost.trip .clock).mve
        rw [hm]
        exact ⟨rfl, rfl, rfl, rfl, rfl⟩

end Sys2Proof.Machine

/-! PROOFS. The end of an image load, and the bit time that passes when no command waits. -/

namespace Sys2Proof.Machine

/-! ### The end of a load -/

/-- Between states outside the running group the CWU stops only the seconds timer. -/
theorem Cwu.onRunState_outside (c : Cwu) (role : Role) {old new : RunState} (hold : old.inGroup = false)
    (hnew : new.isTurning = false) :
    c.onRunState role old new =
      { c with secondsTimer := if role = .crusher then .stopped else c.secondsTimer } := by
  unfold Cwu.onRunState
  simp only [hold, hnew, Bool.false_and, Bool.false_eq_true, if_false, beq_iff_eq]
  split <;> rfl

/-- READY entered from OFFLINE, before the early telegram. -/
def State.readied (s : State) : State :=
  { s with
    lbi := { s.lbi with periodTimer := .running 0 }
    mfe := { s.mfe with sampleBase := .running 0 }
    rsc := { s.rsc with runState := .ready }
    cwu :=
      { s.cwu with
        secondsTimer := if s.cfg.image.role = .crusher then .stopped else s.cwu.secondsTimer } }

theorem State.enterReady_of_offline {s : State} (h : s.rsc.runState = .offline) :
    s.enterReady = s.readied.early := by
  unfold State.enterReady
  rw [State.changeRun_of_ne (by dsimp only; rw [h]; exact fun hc => by cases hc)]
  dsimp only
  rw [h, Cwu.onRunState_outside _ _ rfl rfl]
  simp only [Rsc.onRunState, h]
  rfl

/-- The early telegram of an idle side that runs. -/
theorem State.early_lbi_of_idle {s : State} (h : s.sends = true) (ht : s.lbi.tx = .idle) :
    s.early.lbi = s.lbi.beginEarly := by
  simp [State.early, h, ht]

/-- An early telegram leaves a period that has just started. -/
theorem State.early_periodTimer {s : State} (h : s.lbi.periodTimer = .running 0) :
    s.early.lbi.periodTimer = .running 0 := by
  unfold State.early
  split
  · split
    · rfl
    · rfl
    all_goals exact h
  · exact h

/-- TRIPPED entered from READY with cause CLOCK, on the internal clock. -/
theorem State.readied_trip {s : State} (hc : s.cfg.clock = .internal) :
    s.readied.trip .clock =
      State.raise
        { s.readied with
          rsc := Rsc.ofTrip .clock
          mve := s.mve.abort } .trip := by
  rcases s.readied.trip_cases .clock with ⟨h | h, -⟩ | ⟨-, ht, e⟩
  · cases h
  · cases h
  · rw [e, State.changeRun_of_ne ht, State.early_of_internal (by exact hc)]
    have hcwu : s.readied.cwu.onRunState s.readied.cfg.image.role .ready .tripped = s.readied.cwu := by
      rw [Cwu.onRunState_outside _ _ rfl rfl]
      simp only [State.readied]
      split <;> rfl
    change State.raise { s.readied with
      cwu := s.readied.cwu.onRunState s.readied.cfg.image.role .ready .tripped
      rsc := Rsc.ofTrip .clock, mve := s.mve.abort } .trip = _
    rw [hcwu]

/-- The RSC as OFFLINE leaves it. -/
theorem State.handOver_offline {s : State} {i : Image} {records : List MoveRecord}
    (h : s.rsc = Rsc.reset) : (s.handOver i records).rsc.runState = .offline := by
  change s.rsc.runState = .offline
  rw [h]
  rfl

theorem State.loadValid_of_crystal {s : State} {i : Image} {records : List MoveRecord}
    (h : s.rsc = Rsc.reset) (hc : s.cfg.clock = .crystal) :
    s.loadValid i records = (s.handOver i records).readied.early := by
  unfold State.loadValid
  rw [State.enterReady_of_offline (State.handOver_offline h)]
  dsimp only
  have hcfg : (s.handOver i records).readied.early.cfg.clock = .crystal := by
    rw [State.early_cfg]; exact hc
  rw [hcfg]

theorem State.loadValid_of_internal {s : State} {i : Image} {records : List MoveRecord}
    (h : s.rsc = Rsc.reset) (hc : s.cfg.clock = .internal) :
    s.loadValid i records =
      State.raise
        { (s.handOver i records).readied with
          rsc := Rsc.ofTrip .clock
          mve := (s.handOver i records).mve.abort } .trip := by
  have he : (s.handOver i records).readied.early = (s.handOver i records).readied :=
    State.early_of_internal (by exact hc)
  unfold State.loadValid
  rw [State.enterReady_of_offline (State.handOver_offline h), he]
  dsimp only
  have hcfg : (s.handOver i records).readied.cfg.clock = .internal := hc
  rw [hcfg]
  exact State.readied_trip hc

theorem Image.fixedSource_eq (i : Image) :
    i.fixedSource = if i.role = .bin ∨ i.w = 0 then .estimate else .scale := by
  simp [Image.fixedSource]

theorem Image.fixedSource_estimate (i : Image) :
    (i.fixedSource == .estimate) = decide (i.role = .bin ∨ i.w = 0) := by
  rw [Image.fixedSource_eq]
  split <;> simp_all

/-- Settles O8: READY is entered from the hand-over, and on the internal clock the trip follows at once. -/
theorem imageLoadEnds : Obligations.ImageLoadEnds := by
  intro s bytes hh
  have hexec : exec (.imageLoadEnd bytes) s = .next (s.imageLoadEnd bytes).drive :=
    s.event_of_free (fun t => t.imageLoadEnd bytes) hh
  refine ⟨fun hv => ?_, fun hv hr => ?_, ?_⟩
  · rw [hexec]
    unfold State.imageLoadEnd
    cases h : s.cfg.validity
    · exact absurd h hv
    all_goals rfl
  · rw [hexec, State.imageLoadEnd, hv, hr]
    rfl
  · intro i records hv hrsc hr order table
    have hload : s.imageLoadEnd bytes = s.loadValid i records := by rw [State.imageLoadEnd, hv, hr]
    refine ⟨_, hexec, ?_⟩
    rw [hload]
    have hmfe : (s.handOver i records).readied.mfe =
        { s.mfe with
          source := if i.role = .bin ∨ i.w = 0 then .estimate else .scale
          estimated := decide (i.role = .bin ∨ i.w = 0)
          sampleBase := .running 0 } := by
      rw [← Image.fixedSource_eq, ← Image.fixedSource_estimate]
      rfl
    have hdue : (s.cfg.lastReset = .powerOn → (s.handOver i records).cwu.due = s.cwu.due) ∧
        (s.cfg.lastReset = .pin → ((s.handOver i records).cwu.due = true ↔
          i.calInterval ≤ s.cwu.sinceCal)) :=
      ⟨fun h => by simp [State.handOver, h], fun h => by simp [State.handOver, h]⟩
    have hready : ({ s.rsc with runState := .ready } : Rsc) = { Rsc.reset with runState := .ready } := by
      rw [hrsc]
    have hne : RunState.ready ≠ .offline := fun hc => by cases hc
    have hne' : RunState.tripped ≠ .offline := fun hc => by cases hc
    have hnarrow {t : State} (hc : t.cfg = (s.handOver i records).cfg) : t.cfg.held = false := by
      rw [hc]; exact hh
    cases hc : s.cfg.clock
    · rw [State.loadValid_of_crystal hrsc hc]
      have hrun : (s.handOver i records).readied.early.rsc = { Rsc.reset with runState := .ready } := by
        rw [State.early_rsc]; exact hready
      have hkeep := (s.handOver i records).readied.early_keeps
      have hout := State.outputs_of_free (s := (s.handOver i records).readied.early)
        (hnarrow hkeep.cfg) (by rw [hrun]; exact hne)
      refine ⟨hkeep.cfg, (State.early_mfe _).trans hmfe, ?_, ?_, ?_, fun _ => ?_,
        fun h => (by cases h), ?_, hkeep.peers, State.early_ale _, hkeep.echo, hkeep.draws, hkeep.pending⟩
      · change (s.handOver i records).readied.early.cwu =
          { s.cwu with
            r0 := if s.cwu.r0Set then s.cwu.r0 else i.r0Init
            r0Set := true
            due := (s.handOver i records).readied.early.cwu.due
            secondsTimer := if i.role = .crusher then .stopped else s.cwu.secondsTimer }
        rw [State.early_cwu]
        rfl
      · exact fun h => (congrArg Cwu.due (State.early_cwu _)).trans (hdue.1 h)
      · exact fun h => (iff_of_eq (congrArg (· = true)
          (congrArg Cwu.due (State.early_cwu _)))).trans (hdue.2 h)
      · refine ⟨hrun, ?_, ?_, State.early_evu _, State.early_mve _, State.early_periodTimer rfl, ?_⟩
        · change (State.outputs _).permit = true
          rw [hout]
          change Rsc.permitOutput _ = true
          rw [hrun]
          rfl
        · change (State.outputs _).run = false
          rw [hout]
          change Rsc.runOutput _ = false
          rw [hrun]
          rfl
        · intro htx hinh
          refine State.early_lbi_of_idle ?_ htx
          have hcl : (s.handOver i records).readied.cfg.clock = .crystal := hc
          have hin : (s.handOver i records).readied.lbi.inhibit = false := hinh
          simp only [State.sends, hcl, hin]
          rfl
      · change (State.outputs _).attn = true ↔ _
        rw [hout]
        refine (State.attnOutput_iff (by rw [hrun]; exact hne)).trans ?_
        rw [hkeep.cfg]
        exact Iff.rfl
    · rw [State.loadValid_of_internal hrsc hc]
      have hout := State.outputs_of_free (s := State.raise
        { (s.handOver i records).readied with
          rsc := Rsc.ofTrip .clock
          mve := (s.handOver i records).mve.abort } .trip) hh hne'
      refine ⟨rfl, hmfe, rfl, hdue.1, hdue.2, fun h => (by cases h), fun _ => ?_, ?_, rfl, rfl, rfl, rfl, rfl⟩
      · refine ⟨rfl, ?_, ?_, rfl, rfl, rfl⟩
        · change (State.outputs _).permit = false
          rw [hout]
          rfl
        · change (State.outputs _).run = false
          rw [hout]
          rfl
      · change (State.outputs _).attn = true ↔ _
        rw [hout]
        exact State.attnOutput_iff hne'

end Sys2Proof.Machine

/-! PROOFS. The bit time that passes when no command waits: what falls due, and what else changes. -/

namespace Sys2Proof.Machine

/-! ### Timers -/

theorem Timer.reached_tick_iff (t : Timer) (limit : Nat) :
    t.tick.reached limit = true ↔ ∃ e, t = .running e ∧ limit ≤ e + 1 := by
  cases t <;> simp [Timer.tick, Timer.reached]

theorem mem_dueIf (b : Bool) (x c : Instr) : c ∈ dueIf b x ↔ c = x ∧ b = true := by
  cases b <;> simp [dueIf]

theorem dueIf_sublist (b : Bool) (x : Instr) : (dueIf b x).Sublist [x] := by
  cases b <;> simp [dueIf]

/-- The expiries that can fall due, each once. -/
def allDue : List Instr :=
  [.periodExpiry] ++ [.startLimitExpiry] ++ [.spinUpExpiry] ++ [.interlockExpiry] ++ [.drainExpiry] ++
    [.settleTimerExpiry] ++ [.recordTimerExpiry] ++ [.remainingTimeExpiry] ++ [.secondsTimerExpiry] ++
    ([.idleGap] ++ [.attemptStart] ++ [.backoffEnd])

theorem State.dueTimers_dueBus_sublist (s : State) : (s.dueTimers ++ s.dueBus).Sublist allDue := by
  unfold State.dueTimers State.dueBus allDue
  exact ((((((((((dueIf_sublist _ _).append (dueIf_sublist _ _)).append (dueIf_sublist _ _)).append
    (dueIf_sublist _ _)).append (dueIf_sublist _ _)).append (dueIf_sublist _ _)).append
    (dueIf_sublist _ _)).append (dueIf_sublist _ _)).append (dueIf_sublist _ _)).append
    (((dueIf_sublist _ _).append (dueIf_sublist _ _)).append (dueIf_sublist _ _)))

theorem allDue_nodup : allDue.Nodup := by decide

/-! ### The queue -/

/-- What is due is queued behind what waits, each command once; only an order of two or more uses a free
value. -/
theorem State.queueDue_eq (s : State) (due : List Instr) :
    ∃ order : List Instr, order.Perm due ∧
      s.queueDue due =
        { s with
          pending := s.pending ++ order
          draws := s.draws + if order.length ≤ 1 then 0 else 1 } := by
  unfold State.queueDue
  split
  · exact ⟨[], .refl _, by simp⟩
  · next c => exact ⟨[c], .refl _, by simp⟩
  · next a b l =>
    have hp := arrange_perm (Config.dueOrder s.draws) (a :: b :: l)
    refine ⟨_, hp, ?_⟩
    have hlen : ¬ (arrange (Config.dueOrder s.draws) (a :: b :: l)).length ≤ 1 := by
      rw [hp.length_eq]; simp
    rw [if_neg hlen]
    rfl

/-- The idle time completes a measurement, and a start bit prevents what that brings. -/
def State.startSeen (s : State) : Bool := !s.dueBus.isEmpty && Config.startBitSeen s.draws

/-- One bit time's queueing. -/
theorem State.queueAll_eq (s : State) :
    ∃ order : List Instr, order.Perm (s.dueTimers ++ if s.startSeen then [] else s.dueBus) ∧
      s.queueAll =
        { s with
          lbi := { s.lbi with idleTime := if s.startSeen then 0 else s.lbi.idleTime }
          pending := s.pending ++ order
          draws := s.draws + (if s.dueBus = [] then 0 else 1) + if order.length ≤ 1 then 0 else 1 } := by
  rcases s.queueAll_cases with ⟨hb, e⟩ | ⟨hb, hs, e⟩ | ⟨hb, hs, e⟩ <;> rw [e]
  · obtain ⟨order, hp, e⟩ := s.queueDue_eq s.dueTimers
    refine ⟨order, by simpa [hb] using hp, ?_⟩
    rw [e]
    simp [State.startSeen, hb]
  · obtain ⟨order, hp, e⟩ := s.drawn.startBit.queueDue_eq s.dueTimers
    have hseen : s.startSeen = true := by simp [State.startSeen, hb, hs]
    refine ⟨order, by simpa [hseen] using hp, ?_⟩
    rw [e, hseen, if_neg hb]
    rfl
  · obtain ⟨order, hp, e⟩ := s.drawn.queueDue_eq (s.dueTimers ++ s.dueBus)
    have hseen : s.startSeen = false := by simp [State.startSeen, hs]
    refine ⟨order, by simpa [hseen] using hp, ?_⟩
    rw [e, hseen, if_neg hb]
    rfl

/-! ### What falls due -/

/-- The remaining time of an active record reaches 0 in this bit time, or has reached it. -/
theorem Mve.timeOut_tick (m : Mve) (a b : Timer) :
    Mve.timeOut { m with settleTimer := a, recordTimer := b, active := m.active.map Context.tick } =
      m.active.any fun c => c.work == .timed 0 || c.work == .timed 1 := by
  unfold Mve.timeOut
  cases m.active with
  | none => rfl
  | some c =>
    simp only [Option.map_some, Option.any_some, Context.tick]
    rcases hw : c.work with _ | _ | _ | n
    · simp [hw]
    · simp [hw]
    · simp [hw]
    · rw [Bool.eq_iff_iff]
      simp only [beq_iff_eq, Working.timed.injEq, Bool.or_eq_true]
      omega

theorem Mve.timeout_tick (m : Mve) (a b : Timer) :
    Mve.timeout { m with settleTimer := a, recordTimer := b, active := m.active.map Context.tick } =
      (m.active.map fun c => c.record.timeout).getD 0 := by
  unfold Mve.timeout
  cases m.active with
  | none => rfl
  | some c =>
    have : c.tick.record = c.record := by unfold Context.tick; split <;> rfl
    simp [this]

theorem Lbi.idleTick_eq (l : Lbi) :
    l.idleTick = if l.tx = .sending then 0 else min 760 (l.idleTime + 1) := by
  simp only [Lbi.idleTick, satNat_eq_min, beq_iff_eq]
  rfl

/-- The state after one bit time, before anything is queued. -/
def State.passed (s : State) : State := { s.advance with cfg := s.cfg.tick }

theorem State.tick_of_free {s : State} (hh : s.cfg.held = false) (ho : s.rsc.runState ≠ .offline) :
    s.tick = s.passed.queueAll := by
  simp [State.tick, hh, ho, State.passed]

theorem State.mem_dueTimers (s : State) (c : Instr) :
    c ∈ s.passed.dueTimers ↔
      (c = .periodExpiry ∧ s.lbi.periodTimer.tick.reached s.cfg.image.period = true) ∨
      (c = .startLimitExpiry ∧
        s.rsc.startTimer.tick.reached (secondsTime s.cfg.image.startLimit) = true) ∨
      (c = .spinUpExpiry ∧
        s.rsc.spinTimer.tick.reached (secondsTime s.cfg.image.spinUpLimit) = true) ∨
      (c = .interlockExpiry ∧
        s.rsc.interlockTimer.tick.reached (secondsTime s.cfg.image.interlockLimit) = true) ∨
      (c = .drainExpiry ∧ s.rsc.drainTimer.tick.reached (secondsTime s.cfg.image.drainTime) = true) ∨
      (c = .settleTimerExpiry ∧
        s.mve.settleTimer.tick.reached (secondsTime s.cfg.image.settleLimit) = true) ∨
      (c = .recordTimerExpiry ∧
        s.mve.recordTimer.tick.reached
          (secondsTime ((s.mve.active.map fun c => c.record.timeout).getD 0)) = true) ∨
      (c = .remainingTimeExpiry ∧
        (s.mve.active.any fun a => a.work == .timed 0 || a.work == .timed 1) = true) ∨
      (c = .secondsTimerExpiry ∧ s.cwu.secondsTimer.tick.reached (secondsTime 1) = true) := by
  have ht : s.passed.mve.timeOut = s.mve.active.any fun a => a.work == .timed 0 || a.work == .timed 1 :=
    s.mve.timeOut_tick _ _
  have hr : s.passed.mve.timeout = (s.mve.active.map fun c => c.record.timeout).getD 0 :=
    s.mve.timeout_tick _ _
  unfold State.dueTimers
  rw [ht, hr]
  simp only [List.mem_append, mem_dueIf, or_assoc]
  rfl

theorem State.mem_dueBus (s : State) (c : Instr) :
    c ∈ s.passed.dueBus ↔
      (c = .idleGap ∧ s.lbi.idleTick = 40) ∨
      (c = .attemptStart ∧ s.lbi.tx = .waitIdle ∧ 40 ≤ s.lbi.idleTick) ∨
      (c = .backoffEnd ∧ s.lbi.tx = .backoff ∧ 40 + s.cfg.image.number * 24 ≤ s.lbi.idleTick) := by
  simp only [State.dueBus, List.mem_append, mem_dueIf, or_assoc, Bool.and_eq_true, beq_iff_eq,
    decide_eq_true_eq]
  rfl

theorem State.dueBus_eq_nil (s : State) :
    s.passed.dueBus = [] ↔
      ¬ (s.lbi.idleTick = 40 ∨ (s.lbi.tx = .waitIdle ∧ 40 ≤ s.lbi.idleTick) ∨
        (s.lbi.tx = .backoff ∧ 40 + s.cfg.image.number * 24 ≤ s.lbi.idleTick)) := by
  rw [List.eq_nil_iff_forall_not_mem]
  simp only [State.mem_dueBus]
  constructor
  · rintro h (h1 | h2 | h3)
    · exact h .idleGap (.inl ⟨rfl, h1⟩)
    · exact h .attemptStart (.inr (.inl ⟨rfl, h2⟩))
    · exact h .backoffEnd (.inr (.inr ⟨rfl, h3⟩))
  · rintro h c (⟨-, h1⟩ | ⟨-, h2⟩ | ⟨-, h3⟩)
    · exact h (.inl h1)
    · exact h (.inr (.inl h2))
    · exact h (.inr (.inr h3))

/-- Settles O2: the timers go on, then what is due is queued; a free value decides on the start bit where an idle
measurement is complete. -/
theorem emptyQueuePassesOneBitTime : Obligations.EmptyQueuePassesOneBitTime := by
  intro s hq i passed idle timeout complete busy due
  have hidle : s.lbi.idleTick = idle := s.lbi.idleTick_eq
  have hnil : s.passed.dueBus = [] ↔ ¬ complete := by rw [State.dueBus_eq_nil, hidle]
  have hseen : s.passed.startSeen = true ↔ busy := by
    simp only [State.startSeen, Bool.and_eq_true, Bool.not_eq_true', List.isEmpty_eq_false_iff, Ne, hnil,
      not_not, busy]
    rfl
  refine ⟨by simp [step, hq], fun hh => by simp [State.tick, hh], fun hh ho => ?_, fun hh ho => ?_,
    ⟨rfl, rfl, rfl⟩, fun e => ⟨rfl, rfl, rfl⟩, fun c => ⟨fun n hn => ?_, fun hn => ?_⟩⟩
  · simp [State.tick, hh, ho, Cfg.tick]
  · obtain ⟨order, hperm, e⟩ := s.passed.queueAll_eq
    rw [State.tick_of_free hh ho, e]
    have hpend : s.passed.pending ++ order = order := by
      change s.pending ++ order = order
      rw [hq]
      rfl
    have hmem (c : Instr) : c ∈ order ↔ due c := by
      have hbus : (c ∈ if s.passed.startSeen = true then [] else s.passed.dueBus) ↔
          ¬ busy ∧ c ∈ s.passed.dueBus := by
        by_cases hb : busy
        · simp [hseen.2 hb, hb]
        · rw [if_neg (fun hc => hb (hseen.1 hc))]
          simp [hb]
      rw [hperm.mem_iff, List.mem_append, hbus, State.mem_dueTimers, State.mem_dueBus, hidle]
      simp only [Timer.reached_tick_iff, or_assoc]
      rfl
    have hnodup : order.Nodup := by
      refine hperm.nodup_iff.2 (List.Nodup.sublist (List.Sublist.trans ?_ s.passed.dueTimers_dueBus_sublist)
        allDue_nodup)
      split
      · simp
      · exact .refl _
    refine ⟨fun c => ?_, ?_, ?_, rfl, rfl, rfl, rfl, rfl, rfl, rfl, ?_, rfl, rfl, rfl⟩
    · dsimp only
      rw [hpend]
      exact hmem c
    · dsimp only
      rw [hpend]
      exact hnodup
    · dsimp only
      rw [hpend]
      by_cases hc : complete
      · simp only [hnil, hc, not_true_eq_false, if_false, if_true]
        rfl
      · simp only [hnil, hc, not_false_eq_true, if_true, if_false]
        rfl
    · by_cases hb : busy
      · simp only [hseen.2 hb, hb, if_true]
        rfl
      · have : s.passed.startSeen = false := by
          by_contra hc
          exact hb (hseen.1 (by simpa using hc))
        simp only [this, hb, Bool.false_eq_true, if_false]
        rw [← hidle]
        rfl
  · unfold Context.tick
    rw [hn]
  · unfold Context.tick
    rcases hw : c.work with _ | _ | _ | n
    · rfl
    · rfl
    · rfl
    · exact absurd hw (hn n)

end Sys2Proof.Machine

/-! PROOFS. The configuration image: what stands at its offsets, and the checks that an accepted one passes. -/

namespace Sys2Proof.Machine

/-! ### Fields at their offsets -/

theorem toNat_append_bytes (a b : Byte) : (a ++ b : BitVec 16).toNat = a.toNat * 256 + b.toNat := by
  rw [BitVec.toNat_append, ← Nat.shiftLeft_add_eq_or_of_lt b.isLt, Nat.shiftLeft_eq]

/-- A two-byte field stands high byte first. -/
theorem imageNat_eq (bytes : List Byte) (o : Nat) :
    imageNat bytes o = (imageByte bytes o).toNat * 256 + (imageByte bytes (o + 1)).toNat :=
  toNat_append_bytes _ _

theorem imageSum_toNat (bytes : List Byte) (n : Nat) :
    (imageSum bytes n).toNat = ((List.range n).map fun k => imageNat bytes (2 * k)).sum % 65536 := by
  induction n with
  | zero => rfl
  | succ n ih =>
    rw [imageSum, BitVec.toNat_add, ih, List.range_succ, List.map_append, List.sum_append]
    simp [imageNat]

theorem imageSumOk_iff (bytes : List Byte) :
    imageSumOk bytes = true ↔
      ((List.range 173).map fun k => imageNat bytes (2 * k)).sum % 65536 = 0 := by
  rw [← imageSum_toNat]
  simp only [imageSumOk, beq_iff_eq]
  exact ⟨fun h => by rw [show imageLength / 2 = 173 from rfl] at h; rw [h]; rfl,
    fun h => BitVec.eq_of_toNat_eq h⟩

theorem imageHeaderOk_iff (bytes : List Byte) :
    imageHeaderOk bytes = true ↔ imageNat bytes 0 = 3 ∧ imageNat bytes 2 = 346 := by
  simp only [imageHeaderOk, Bool.and_eq_true, beq_iff_eq]
  rfl

/-- The highest four bits of a three-byte set are those of its first byte. -/
theorem extractLsb'_imageSet (bytes : List Byte) (o : Nat) :
    (imageSet bytes o).extractLsb' 20 4 = (imageByte bytes o).extractLsb' 4 4 := by
  refine BitVec.eq_of_getLsbD_eq fun n hn => ?_
  rw [BitVec.getLsbD_extractLsb', BitVec.getLsbD_extractLsb']
  refine congrArg (decide (n < 4) && ·) ?_
  change (imageByte bytes o ++ imageByte bytes (o + 1) ++ imageByte bytes (o + 2) :
    BitVec (8 + 8 + 8)).getLsbD (20 + n) = _
  rw [BitVec.getLsbD_append, if_neg (by omega), BitVec.getLsbD_append, if_neg (by omega)]
  congr 1
  omega

theorem imageMasksOk_iff (bytes : List Byte) :
    imageMasksOk bytes = true ↔
      (imageByte bytes 85).extractLsb' 4 4 = 0#4 ∧ (imageByte bytes 88).extractLsb' 4 4 = 0#4 := by
  simp only [imageMasksOk, Bool.and_eq_true, beq_iff_eq, extractLsb'_imageSet]

/-! ### Codes -/

theorem Role.ofCode_eq_some (c : Nat) (r : Role) :
    Role.ofCode c = some r ↔
      [none, some Role.feeder, some .crusher, some .bin][c]? = some (some r) := by
  rcases c with _ | _ | _ | _ | c <;> simp [Role.ofCode]

theorem RecordKind.ofCode_eq (c : Nat) :
    RecordKind.ofCode c = [RecordKind.gapTo, .gapBy, .touch, .dwell, .rateFor][c]? := by
  rcases c with _ | _ | _ | _ | _ | c <;> rfl

theorem Feed.ofCode_eq (c : Nat) : Feed.ofCode c = [Feed.none, .reduce, .stop][c]? := by
  rcases c with _ | _ | _ | c <;> rfl

/-! ### Move records -/

theorem MoveRecord.inRange_iff (r : MoveRecord) :
    r.inRange = true ↔
      (1 ≤ r.timeout ∧ r.timeout ≤ 600) ∧ r.next ≤ 31 ∧ (-3000 ≤ r.step ∧ r.step ≤ 3000) ∧
        (r.kind = .gapTo ∨ r.kind = .touch → 0 ≤ r.argument ∧ r.argument ≤ 3000) ∧
        (r.kind = .gapBy → -3000 ≤ r.argument ∧ r.argument ≤ 3000) ∧
        (r.kind = .dwell → 1 ≤ r.argument ∧ r.argument ≤ 600) ∧
        (r.kind = .rateFor → 0 ≤ r.argument ∧ r.argument ≤ 1000) := by
  simp only [MoveRecord.inRange, within, Bool.and_eq_true, decide_eq_true_eq, Nat.zero_le, true_and]
  cases hk : r.kind <;> simp [argumentOk] <;> tauto

/-- What an accepted record of the image is. -/
theorem imageRecord_eq_some (bytes : List Byte) (n : Nat) (r : MoveRecord) :
    imageRecord bytes (n + 1) = some r ↔
      let o := 91 + 8 * n
      ([RecordKind.gapTo, .gapBy, .touch, .dwell,
          .rateFor][((imageByte bytes o).extractLsb' 0 3).toNat]? = some r.kind ∧
        r.targetSource = (if (imageByte bytes o).getLsbD 3 then .standing else .absolute) ∧
        [Feed.none, .reduce, .stop][((imageByte bytes o).extractLsb' 4 2).toNat]? = some r.feed ∧
        r.notify = (imageByte bytes o).getLsbD 6 ∧ r.update = (imageByte bytes o).getLsbD 7 ∧
        r.next = ((imageByte bytes (o + 1)).extractLsb' 0 5).toNat ∧
        r.stop = (imageByte bytes (o + 1)).getLsbD 7 ∧
        r.argument = (imageWord bytes (o + 2)).toInt ∧ r.step = (imageWord bytes (o + 4)).toInt ∧
        r.timeout = imageNat bytes (o + 6)) ∧ r.inRange = true := by
  extract_lets o
  simp only [imageRecord, Option.bind_eq_bind, Option.bind_eq_some_iff, Option.ite_none_right_eq_some,
    RecordKind.ofCode_eq, Feed.ofCode_eq, Nat.add_sub_cancel]
  constructor
  · rintro ⟨k, hk, f, hf, hr, he⟩
    cases he
    exact ⟨⟨hk, rfl, hf, rfl, rfl, rfl, rfl, rfl, rfl, rfl⟩, hr⟩
  · rintro ⟨⟨hk, hts, hf, hn, hu, hnx, hst, ha, hs, ht⟩, hr⟩
    refine ⟨r.kind, hk, r.feed, hf, ?_⟩
    have he : ({ kind := r.kind
                 targetSource := if (imageByte bytes o).getLsbD 3 then .standing else .absolute
                 argument := imageInt bytes (o + 2)
                 step := imageInt bytes (o + 4)
                 timeout := imageNat bytes (o + 6)
                 feed := r.feed
                 notify := (imageByte bytes o).getLsbD 6
                 update := (imageByte bytes o).getLsbD 7
                 stop := (imageByte bytes (o + 1)).getLsbD 7
                 next := ((imageByte bytes (o + 1)).extractLsb' 0 5).toNat } : MoveRecord) = r := by
      rw [imageInt, imageInt, ← hts, ← hn, ← hu, ← hnx, ← hst, ← ha, ← hs, ← ht]
    exact ⟨he.symm ▸ hr, congrArg some he⟩

theorem imageRecords_eq_some (bytes : List Byte) (count n : Nat) (l : List MoveRecord) :
    imageRecords bytes count n = some l ↔
      l.length = count ∧ ∀ k r, l[k]? = some r → imageRecord bytes (n + k) = some r := by
  induction count generalizing n l with
  | zero =>
    cases l <;> simp [imageRecords]
  | succ count ih =>
    simp only [imageRecords, Option.bind_eq_bind, Option.bind_eq_some_iff, Option.some.injEq]
    constructor
    · rintro ⟨r, hr, rest, hrest, rfl⟩
      obtain ⟨hlen, hall⟩ := (ih _ _).1 hrest
      refine ⟨by simp [hlen], fun k q hq => ?_⟩
      cases k with
      | zero => cases hq; exact hr
      | succ k => rw [show n + (k + 1) = n + 1 + k by omega]; exact hall k q hq
    · rintro ⟨hlen, hall⟩
      cases l with
      | nil => cases hlen
      | cons r rest =>
        refine ⟨r, hall 0 r rfl, rest, (ih _ _).2 ⟨by simpa using hlen, fun k q hq => ?_⟩, rfl⟩
        rw [show n + 1 + k = n + (k + 1) by omega]
        exact hall (k + 1) q hq

/-! ### The configured values -/

/-- What the configured values of an image are. -/
theorem imageValues_eq_some (bytes : List Byte) (i : Image) :
    imageValues bytes = some i ↔
      i.number = (imageByte bytes 4).toNat ∧
      [none, some Role.feeder, some .crusher, some .bin][(imageByte bytes 5).toNat]? =
        some (some i.role) ∧
      i.position = (imageByte bytes 6).toNat ∧ i.branch = (imageByte bytes 7).toNat ∧
      i.terminal = (imageByte bytes 8).getLsbD 0 ∧ i.noFeedback = (imageByte bytes 8).getLsbD 1 ∧
      i.aTerm = imageNat bytes 9 ∧ i.panel1 = (imageByte bytes 11).toNat ∧
      i.panel2 = (imageByte bytes 12).toNat ∧
      [i.tB, i.lF, i.kp, i.r0Init, i.w, i.fMax, i.uMin, i.duUp, i.pOvl, i.pLim, i.pIdle, i.pTouch,
          i.lHigh, i.lSet, i.lLow, i.lTgt, i.kc, i.kl, i.rRed, i.mBin, i.tH, i.gMin, i.gMax, i.gInit,
          i.db, i.qIdle, i.wJump, i.wMax, i.startLimit, i.spinUpLimit, i.interlockLimit,
          i.drainTime, i.settleLimit, i.calInterval, i.orderTimeout] =
        (List.range 35).map (fun k => imageNat bytes (13 + 2 * k)) ∧
      [Feed.none, .reduce, .stop][imageNat bytes 83]? = some i.orderFeed ∧
      i.attnMask = (imageSet bytes 85).extractLsb' 0 20 ∧
      i.tripMask = (imageSet bytes 88).extractLsb' 0 20 ∧
      [i.headTramp, i.headOverload, i.headCalibrate, i.headStart, i.headSchedule] =
        (List.range 5).map (fun k => imageHead bytes (339 + k)) := by
  simp only [imageValues, Option.bind_eq_bind, Option.bind_eq_some_iff, Option.some.injEq,
    Role.ofCode_eq_some, Feed.ofCode_eq]
  constructor
  · rintro ⟨role, hrole, feed, hfeed, rfl⟩
    exact ⟨rfl, hrole, rfl, rfl, rfl, rfl, rfl, rfl, rfl, rfl, hfeed, rfl, rfl, rfl⟩
  · rcases i
    rintro ⟨h1, hrole, h2, h3, h4, h5, h6, h7, h8, hwords, hfeed, h9, h10, hheads⟩
    refine ⟨_, hrole, _, hfeed, ?_⟩
    simp only [List.range, List.range.loop, List.map, List.cons.injEq, and_true] at hwords hheads
    dsimp only at *
    subst_vars
    obtain ⟨rfl, rfl, rfl, rfl, rfl, rfl, rfl, rfl, rfl, rfl, rfl, rfl, rfl, rfl, rfl, rfl, rfl, rfl, rfl,
      rfl, rfl, rfl, rfl, rfl, rfl, rfl, rfl, rfl, rfl, rfl, rfl, rfl, rfl, rfl, rfl⟩ := hwords
    obtain ⟨rfl, rfl, rfl, rfl, rfl⟩ := hheads
    rfl

theorem Image.heads_iff (i : Image) :
    (∀ r : Requester, (i.head r).slot ≤ 31) ↔
      i.headTramp.slot ≤ 31 ∧ i.headOverload.slot ≤ 31 ∧ i.headCalibrate.slot ≤ 31 ∧
        i.headStart.slot ≤ 31 ∧ i.headSchedule.slot ≤ 31 := by
  constructor
  · exact fun h => ⟨h .tramp, h .overload, h .calibrate, h .start, h .schedule⟩
  · rintro ⟨h1, h2, h3, h4, h5⟩ r
    cases r
    · exact h1
    · exact h2
    · exact Nat.zero_le 31
    · exact h3
    · exact h4
    · exact h5

/-- The trip-select mask holds selectable kinds only. -/
theorem tripMask_iff (m : EventSet) :
    m &&& ~~~selectableKinds = 0#20 ↔
      ∀ k : EventKind, m.has k = true →
        k = .scaleLost ∨ k = .gapSensor ∨ k = .busSilent ∨ k = .overload ∨ k = .levelHigh := by
  rw [EventSet.eq_zero_iff]
  refine forall_congr' fun k => ?_
  have hk : EventSet.has (~~~selectableKinds) k = !decide
      (k = .scaleLost ∨ k = .gapSensor ∨ k = .busSilent ∨ k = .overload ∨ k = .levelHigh) := by
    cases k <;> decide
  rw [EventSet.has_and, hk]
  cases m.has k
  · simp
  · simp only [Bool.true_and, Bool.not_eq_false', decide_eq_true_eq, forall_const]

theorem Image.ok_iff (i : Image) :
    i.ok = true ↔
      (1 ≤ i.number ∧ i.number ≤ 30) ∧ (1 ≤ i.position ∧ i.position ≤ 15) ∧ i.branch ≤ 3 ∧
      i.aTerm ≤ 4000 ∧ i.panel1 ≤ 30 ∧ i.panel2 ≤ 30 ∧
      (100 ≤ i.tB ∧ i.tB ≤ 1000 ∧ i.tB % 10 = 0) ∧ (2 ≤ i.lF ∧ i.lF ≤ 8) ∧
      (1 ≤ i.kp ∧ i.kp ≤ 2048) ∧ (1 ≤ i.r0Init ∧ i.r0Init ≤ 4094) ∧ i.w ≤ 1000 ∧
      (1 ≤ i.fMax ∧ i.fMax ≤ 4000) ∧ i.uMin ≤ 500 ∧ (1 ≤ i.duUp ∧ i.duUp ≤ 1000) ∧
      (500 ≤ i.pLim ∧ i.pLim ≤ 1200) ∧ (20 ≤ i.pIdle ∧ i.pIdle ≤ 200) ∧
      (100 ≤ i.pTouch ∧ i.pTouch ≤ 1500) ∧ (i.pLim < i.pOvl ∧ i.pOvl ≤ 1500) ∧
      (100 ≤ i.lHigh ∧ i.lHigh ≤ 1000) ∧ i.lSet ≤ 1000 ∧ i.lLow ≤ 1000 ∧ i.lTgt ≤ 1000 ∧
      (1 ≤ i.kc ∧ i.kc ≤ 10000) ∧ i.kl ≤ 255 ∧ i.rRed ≤ 1000 ∧ (1 ≤ i.mBin ∧ i.mBin ≤ 10000) ∧
      (60 ≤ i.tH ∧ i.tH ≤ 3600) ∧
      (i.gMin < i.gMax ∧ i.gMin ≤ i.gInit ∧ i.gInit ≤ i.gMax ∧ i.gMax ≤ 3000) ∧
      (1 ≤ i.db ∧ i.db ≤ 20) ∧ i.qIdle ≤ 400 ∧ (1 ≤ i.wJump ∧ i.wJump ≤ 500) ∧
      (1 ≤ i.wMax ∧ i.wMax ≤ 3000) ∧ (10 ≤ i.startLimit ∧ i.startLimit ≤ 600) ∧
      (1 ≤ i.spinUpLimit ∧ i.spinUpLimit ≤ 60) ∧ (1 ≤ i.interlockLimit ∧ i.interlockLimit ≤ 60) ∧
      (5 ≤ i.drainTime ∧ i.drainTime ≤ 300) ∧ (5 ≤ i.settleLimit ∧ i.settleLimit ≤ 300) ∧
      (60 ≤ i.calInterval ∧ i.calInterval ≤ 30000) ∧
      (1 ≤ i.orderTimeout ∧ i.orderTimeout ≤ 600) ∧
      (∀ r : Requester, (i.head r).slot ≤ 31) ∧
      (i.noFeedback = true → i.role = .bin) ∧
      ∀ k : EventKind, i.tripMask.has k = true →
        k = .scaleLost ∨ k = .gapSensor ∨ k = .busSilent ∨ k = .overload ∨ k = .levelHigh := by
  have hfb : ((!i.noFeedback || i.role == .bin) = true) ↔ (i.noFeedback = true → i.role = .bin) := by
    cases i.noFeedback <;> simp
  have hgap : (i.gMin < i.gMax ∧ i.gMin ≤ i.gInit ∧ i.gInit ≤ i.gMax ∧ i.gMax ≤ 3000) ↔
      (i.gMin ≤ 3000 ∧ i.gMax ≤ 3000 ∧ i.gInit ≤ 3000) ∧
        i.gMin < i.gMax ∧ i.gMin ≤ i.gInit ∧ i.gInit ≤ i.gMax := by omega
  rw [Image.heads_iff, ← tripMask_iff, ← hfb, hgap, ← eq_iff_iff]
  simp only [Image.ok, Image.rangesA, Image.rangesB, Image.relations, within, Bool.and_eq_true,
    decide_eq_true_eq, beq_iff_eq, Nat.zero_le, true_and]
  ac_rfl

/-- Settles O9: each check by the lemma that says it. -/
theorem acceptedImageIsChecked : Obligations.AcceptedImageIsChecked := by
  intro bytes i records byte word num
  have hnum (o : Nat) : num o = imageNat bytes o := (imageNat_eq bytes o).symm
  have hread : readImage bytes = some (i, records) ↔
      imageValues bytes = some i ∧ imageRecords bytes 31 1 = some records ∧
        imageHeaderOk bytes = true ∧ imageSumOk bytes = true ∧ imageMasksOk bytes = true ∧
          i.ok = true := by
    simp only [readImage, Option.bind_eq_bind, Option.bind_eq_some_iff, Option.ite_none_right_eq_some,
      Bool.and_eq_true, Option.some.injEq, Prod.mk.injEq]
    constructor
    · rintro ⟨j, hj, l, hl, ⟨⟨⟨h1, h2⟩, h3⟩, h4⟩, rfl, rfl⟩
      exact ⟨hj, hl, h1, h2, h3, h4⟩
    · rintro ⟨hj, hl, h1, h2, h3, h4⟩
      exact ⟨i, hj, records, hl, ⟨⟨⟨h1, h2⟩, h3⟩, h4⟩, rfl, rfl⟩
  have hrec : imageRecords bytes 31 1 = some records ↔ records.length = 31 ∧
      (∀ n r, records[n]? = some r → imageRecord bytes (n + 1) = some r) := by
    rw [imageRecords_eq_some]
    simp only [Nat.add_comm 1]
  rw [hread, hrec, imageValues_eq_some, imageHeaderOk_iff, imageSumOk_iff, imageMasksOk_iff, Image.ok_iff]
  simp only [hnum]
  constructor
  · rintro ⟨⟨hnumber, hrole, hpos, hbranch, hterm, hfb, haterm, hp1, hp2, hwords, hfeed, hattn, htrip, hheads⟩,
      ⟨hlen, hrecs⟩, ⟨hver, hsize⟩, hsum, ⟨hmask1, hmask2⟩, hok⟩
    refine ⟨hver, hsize, hsum, hnumber, hrole, hpos, hbranch, hterm, hfb, haterm, hp1, hp2, hwords, hfeed,
      hattn, htrip, hmask1, hmask2, hheads, ?_⟩
    have hfields := fun n r h => ((imageRecord_eq_some bytes n r).1 (hrecs n r h)).1
    have hranges : ∀ r ∈ records, _ := fun r hr =>
      have ⟨n, hn⟩ := List.mem_iff_getElem?.1 hr
      (MoveRecord.inRange_iff r).1 ((imageRecord_eq_some bytes n r).1 (hrecs n r hn)).2
    obtain ⟨cNum, cPos, cBra, cAte, cPa1, cPa2, cTb, cLf, cKp, cR0, cW, cFma, cUmi, cDuu, cPli, cPid,
      cPto, cPov, cLhi, cLse, cLlo, cLtg, cKc, cKl, cRre, cMbi, cTh, cGap, cDb, cQid, cWju,
      cWma, cSta, cSpi, cInt, cDra, cSet, cCal, cOrd, cHea, cFbk, cTri⟩ := hok
    exact ⟨cNum, cPos, cBra, cAte, cPa1, cPa2, cTb, cLf, cKp, cR0, cW, cFma, cUmi, cDuu, cPli, cPid,
      cPto, cPov, cLhi, cLse, cLlo, cLtg, cKc, cKl, cRre, cMbi, cTh, cGap, cDb, cQid, cWju,
      cWma, cSta, cSpi, cInt, cDra, cSet, cCal, cOrd, cHea, cFbk, cTri,
      hlen, hfields, hranges⟩
  · rintro ⟨hver, hsize, hsum, hnumber, hrole, hpos, hbranch, hterm, hfb, haterm, hp1, hp2, hwords, hfeed,
      hattn, htrip, hmask1, hmask2, hheads, hrest⟩
    obtain ⟨cNum, cPos, cBra, cAte, cPa1, cPa2, cTb, cLf, cKp, cR0, cW, cFma, cUmi, cDuu, cPli, cPid,
      cPto, cPov, cLhi, cLse, cLlo, cLtg, cKc, cKl, cRre, cMbi, cTh, cGap, cDb, cQid, cWju,
      cWma, cSta, cSpi, cInt, cDra, cSet, cCal, cOrd, cHea, cFbk, cTri,
      hlen, hfields, hranges⟩ := hrest
    refine ⟨⟨hnumber, hrole, hpos, hbranch, hterm, hfb, haterm, hp1, hp2, hwords, hfeed, hattn, htrip, hheads⟩,
      ⟨hlen, fun n r h => (imageRecord_eq_some bytes n r).2 ⟨hfields n r h, ?_⟩⟩, ⟨hver, hsize⟩, hsum,
      ⟨hmask1, hmask2⟩, ?_⟩
    · exact (MoveRecord.inRange_iff r).2 (hranges r (List.mem_of_getElem? h))
    · exact ⟨cNum, cPos, cBra, cAte, cPa1, cPa2, cTb, cLf, cKp, cR0, cW, cFma, cUmi, cDuu, cPli, cPid,
      cPto, cPov, cLhi, cLse, cLlo, cLtg, cKc, cKl, cRre, cMbi, cTh, cGap, cDb, cQid, cWju,
      cWma, cSta, cSpi, cInt, cDra, cSet, cCal, cOrd, cHea, cFbk, cTri⟩

end Sys2Proof.Machine

/-! PROOFS. What a command leaves alone: the parts that it does not touch. -/

namespace Sys2Proof.Machine

/-- From `s` to `t` only the parts that `A` allows have been touched, by a command that is neither a reset nor
the end of a load. -/
structure State.Frame (A : Part → Prop) (s t : State) : Prop where
  pending : t.pending = s.pending
  image : t.cfg.image = s.cfg.image
  cfg : ¬ A .crystal → t.cfg = s.cfg
  offline : t.rsc.runState = .offline ↔ s.rsc.runState = .offline
  ordered : ¬ A .order → t.echo = s.echo ∧ t.ale.cap = s.ale.cap ∧ t.mve.gSet = s.mve.gSet
  peers : ¬ A .table → t.peers = s.peers
  account : ¬ A .order → ¬ A .sample →
    t.cwu.r0 = s.cwu.r0 ∧ t.cwu.ring = s.cwu.ring ∧ t.cwu.totalWear = s.cwu.totalWear ∧
      t.cwu.calNumber = s.cwu.calNumber
  mfe : ¬ A .measure → t.mfe = s.mfe
  reception : ¬ A .reception → ¬ A .crystal → s.lbi.SameReception t.lbi
  events : ¬ A .acknowledge → ∀ k : EventKind, s.evu.events.has k = true → t.evu.events.has k = true
  tripped : ¬ A .clear → s.rsc.runState = .tripped → t.rsc = s.rsc

/-- No part beside what every command may touch has been touched. -/
abbrev State.Still (s t : State) : Prop := s.Frame (fun _ => False) t

namespace State.Frame

variable {A : Part → Prop} {s t u : State}

theorem refl (s : State) : s.Frame A s :=
  ⟨rfl, rfl, fun _ => rfl, Iff.rfl, fun _ => ⟨rfl, rfl, rfl⟩, fun _ => rfl, fun _ _ => ⟨rfl, rfl, rfl, rfl⟩,
    fun _ => rfl, fun _ _ => .refl _, fun _ _ h => h, fun _ _ => rfl⟩

theorem join (h : s.Frame A t) (k : t.Frame A u) : s.Frame A u where
  pending := k.pending.trans h.pending
  image := k.image.trans h.image
  cfg := fun hA => (k.cfg hA).trans (h.cfg hA)
  offline := k.offline.trans h.offline
  ordered := fun hA =>
    have ⟨h1, h2, h3⟩ := h.ordered hA
    have ⟨k1, k2, k3⟩ := k.ordered hA
    ⟨k1.trans h1, k2.trans h2, k3.trans h3⟩
  peers := fun hA => (k.peers hA).trans (h.peers hA)
  account := fun hA hB =>
    have ⟨h1, h2, h3, h4⟩ := h.account hA hB
    have ⟨k1, k2, k3, k4⟩ := k.account hA hB
    ⟨k1.trans h1, k2.trans h2, k3.trans h3, k4.trans h4⟩
  mfe := fun hA => (k.mfe hA).trans (h.mfe hA)
  reception := fun hA hB => (h.reception hA hB).trans (k.reception hA hB)
  events := fun hA e he => k.events hA e (h.events hA e he)
  tripped := fun hA ht =>
    have hr := h.tripped hA ht
    (k.tripped hA (hr ▸ ht)).trans hr

theorem ofStill (k : s.Still t) : s.Frame A t :=
  ⟨k.pending, k.image, fun _ => k.cfg id, k.offline, fun _ => k.ordered id, fun _ => k.peers id,
    fun _ _ => k.account id id, fun _ => k.mfe id, fun _ _ => k.reception id id, fun _ => k.events id,
    fun _ => k.tripped id⟩

/-- What stands still after a frame leaves it one. -/
theorem trans (h : s.Frame A t) (k : t.Still u) : s.Frame A u := h.join (ofStill k)

/-- An update of the RSC of a station that is neither OFFLINE nor TRIPPED. -/
theorem withRsc {r : Rsc} (h : s.Frame A t) (ho : s.rsc.runState ≠ .offline)
    (ht : A .clear ∨ s.rsc.runState ≠ .tripped) (hr : r.runState ≠ .offline) :
    s.Frame A { t with rsc := r } :=
  { h with
    offline := ⟨fun hc => absurd hc hr, fun hc => absurd hc ho⟩
    tripped := fun hA hc => absurd hc (ht.resolve_left hA) }

end State.Frame

/-! ### Changes of run state and hold set -/

theorem State.changeRun_cap (s : State) (new : RunState) : (s.changeRun new).ale.cap = s.ale.cap := by
  rcases s.changeRun_ale_cases new with e | e <;> rw [e]
  rfl

/-- What a change of run state touches beside the run state. -/
theorem State.changeRun_frame {A : Part → Prop} {s : State} {new : RunState}
    (ho : s.rsc.runState ≠ .offline) (hn : new ≠ .offline)
    (ht : A .clear ∨ s.rsc.runState ≠ .tripped) : s.Frame A (s.changeRun new) := by
  have hk := s.changeRun_keeps new
  have ht' := s.changeRun_sameTable new
  have hc := s.changeRun_sameRecords new
  exact
    { pending := hk.pending
      image := congrArg Cfg.image hk.cfg
      cfg := fun _ => hk.cfg
      offline := by
        rw [State.changeRun_runState]
        exact ⟨fun h => absurd h hn, fun h => absurd h ho⟩
      ordered := fun _ => ⟨hk.echo, s.changeRun_cap new, ht'.gSet⟩
      peers := fun _ => hk.peers
      account := fun _ _ => ⟨hc.r0, hc.ring, hc.totalWear, hc.calNumber⟩
      mfe := fun _ => s.changeRun_mfe new
      reception := fun _ _ => s.changeRun_sameReception new
      events := fun _ k h => by rw [State.changeRun_evu]; exact h
      tripped := fun hA h => absurd h (ht.resolve_left hA) }

theorem State.Still.of_steady {s t : State} (hk : s.Keeps t) (hs : s.Steady t) (hm : t.mfe = s.mfe)
    (hl : s.lbi.SameReception t.lbi) (hc : t.ale.cap = s.ale.cap) (hg : t.mve.gSet = s.mve.gSet)
    (ha : s.cwu.SameRecords t.cwu) : s.Still t where
  pending := hk.pending
  image := congrArg Cfg.image hk.cfg
  cfg := fun _ => hk.cfg
  offline := hs.offline
  ordered := fun _ => ⟨hk.echo, hc, hg⟩
  peers := fun _ => hk.peers
  account := fun _ _ => ⟨ha.r0, ha.ring, ha.totalWear, ha.calNumber⟩
  mfe := fun _ => hm
  reception := fun _ _ => hl
  events := fun _ => hs.events
  tripped := fun _ => hs.tripped

theorem State.trip_still (s : State) (c : TripCause) : s.Still (s.trip c) := by
  have hrest : (s.trip c).ale.cap = s.ale.cap ∧ s.mve.SameTable (s.trip c).mve ∧
      s.cwu.SameRecords (s.trip c).cwu := by
    rcases s.trip_cases c with ⟨-, e⟩ | ⟨-, -, e⟩ <;> rw [e]
    · exact ⟨rfl, .refl _, .refl _⟩
    · exact ⟨s.changeRun_cap _, s.changeRun_sameTable _, s.changeRun_sameRecords _⟩
  exact .of_steady (s.trip_keeps c) (s.trip_steady c) (s.trip_mfe c) (Lbi.along.trip s c) hrest.1
    hrest.2.1.gSet hrest.2.2

/-- What a change of the hold set keeps of the ALE, the MVE and the CWU. -/
theorem State.setHold_keeps_rest (s : State) (h : HoldSet) :
    (s.setHold h).ale.cap = s.ale.cap ∧ s.mve.SameTable (s.setHold h).mve ∧
      s.cwu.SameRecords (s.setHold h).cwu := by
  unfold State.setHold
  split
  · exact ⟨rfl, .refl _, .refl _⟩
  · simp only [State.early_ale, State.early_mve, State.early_cwu]
    let u : State :=
      { s with
        ale := if s.rsc.hold.isEmpty && !h.isEmpty then s.ale.zero else s.ale
        rsc := { s.rsc with hold := h } }
    have hu : u.ale.cap = s.ale.cap := by
      change (ite _ _ _ : Ale).cap = s.ale.cap
      split <;> rfl
    exact ⟨(u.changeRun_cap _).trans hu, u.changeRun_sameTable _, u.changeRun_sameRecords _⟩

theorem State.setHold_still (s : State) (h : HoldSet) : s.Still (s.setHold h) :=
  have ⟨hc, hm, ha⟩ := s.setHold_keeps_rest h
  .of_steady (s.setHold_keeps h) (s.setHold_steady h) (s.setHold_mfe h) (Lbi.along.setHold s h) hc hm.gSet ha

/-! ### Moves -/

section

variable {A : Part → Prop} {s : State}

theorem State.Frame.moves {t : State} {m : Mve} {d : Cwu} (h : s.Frame A t) (hm : m.gSet = t.mve.gSet)
    (hd : d.r0 = t.cwu.r0 ∧ d.ring = t.cwu.ring ∧ d.totalWear = t.cwu.totalWear ∧
      d.calNumber = t.cwu.calNumber) : s.Frame A { t with mve := m, cwu := d } :=
  h.trans
    { (State.Frame.refl t : t.Still t) with
      ordered := fun _ => ⟨rfl, rfl, hm⟩
      account := fun _ _ => hd }

/-- Every move leaves alone what a command without samples does not touch. -/
theorem State.Frame.moveInv (hs : A .sample → A .measure) :
    MoveInv (A .sample) (s.Frame A) fun _ _ => True where
  setHold := fun h hf => hf.trans (State.setHold_still _ h)
  trip := fun c hf => hf.trans (State.trip_still _ c)
  raise := fun {t} k hf => hf.trans
    { (State.Frame.refl t : t.Still t) with events := fun _ j hj => by rw [State.raise_has, hj]; rfl }
  quiet := fun h hm hd => h.moves hm.gSet ⟨hd.r0, hd.ring, hd.totalWear, hd.calNumber⟩
  account := fun hw h _ _ =>
    { h with
      account := fun _ hB => absurd hw hB
      mfe := fun hA => absurd (hs hw) hA }
  attempts := fun _ h _ => h.moves rfl ⟨rfl, rfl, rfl, rfl⟩
  append := fun _ hw h => { h with account := fun _ hB => absurd hw hB }
  slot := fun {t} c h => by
    obtain ⟨l, -, e⟩ := t.updateSlot_eq c
    exact e ▸ h.moves rfl ⟨rfl, rfl, rfl, rfl⟩
  idle := fun h => h.moves rfl ⟨rfl, rfl, rfl, rfl⟩
  active := fun _ _ => trivial
  set := fun h _ => h.moves rfl ⟨rfl, rfl, rfl, rfl⟩
  frame := fun _ _ _ _ => trivial
  goesOn := fun _ _ => trivial
  next := fun _ _ => trivial
  grant := fun _ _ _ _ _ => trivial
  push := fun _ h _ _ => ⟨h.moves rfl ⟨rfl, rfl, rfl, rfl⟩, trivial⟩
  pop := fun h _ _ _ _ => ⟨h.moves rfl ⟨rfl, rfl, rfl, rfl⟩, trivial⟩
  park := fun _ h _ _ _ _ _ _ => h.moves rfl ⟨rfl, rfl, rfl, rfl⟩
  unpark := fun _ _ _ _ => trivial
  empty := fun h => h.moves rfl ⟨rfl, rfl, rfl, rfl⟩

end

/-! ### Commands -/

theorem State.compute_cap (s : State) : s.compute.cap = s.ale.cap := by
  unfold State.compute
  split
  · rfl
  all_goals split <;> rfl

theorem State.aleResult_cap (s : State) : s.aleResult.cap = s.ale.cap := by
  unfold State.aleResult
  split
  · exact s.compute_cap
  all_goals rfl

section

variable {A : Part → Prop} {s : State}

/-- Entry to the running group from STARTING touches no other part. -/
theorem State.enterStates_still {t : State} (hr : t.rsc.runState = .starting) :
    t.Still t.enterStates := by
  have ho : t.rsc.runState ≠ .offline := fun hc => by cases hr.symm.trans hc
  have ht : t.rsc.runState ≠ .tripped := fun hc => by cases hr.symm.trans hc
  have hnew : (if t.entryHold.isEmpty then RunState.running else .holding) ≠ .offline := by
    split <;> exact fun hc => by cases hc
  have h1 : t.Still (t.changeRun (if t.entryHold.isEmpty then RunState.running else .holding)) :=
    State.changeRun_frame ho hnew (.inr ht)
  have hrun := t.changeRun_runState (if t.entryHold.isEmpty then RunState.running else .holding)
  unfold State.enterStates
  exact (h1.withRsc (r := { (t.changeRun _).rsc with
    subPhase := none, startTimer := .stopped, spinTimer := .stopped, hold := t.entryHold }) ho (.inr ht)
    (by dsimp only; rw [hrun]; exact hnew)).moves rfl ⟨rfl, rfl, rfl, rfl⟩

theorem State.Frame.enterGroup {t : State} (hs : A .sample → A .measure) (h : s.Frame A t)
    (hr : t.rsc.runState = .starting) : s.Frame A t.enterGroup := by
  have ho : t.rsc.runState ≠ .offline := fun hc => by cases hr.symm.trans hc
  have ht : t.rsc.runState ≠ .tripped := fun hc => by cases hr.symm.trans hc
  have h1 : t.Still t.enterStates := State.enterStates_still hr
  have hrun : t.enterStates.rsc.runState ≠ .offline := fun hc => ho (h1.offline.1 hc)
  have h2 : t.Still t.enterStates.evaluateInterlock := h1.withRsc ho (.inr ht) hrun
  have M := State.Frame.moveInv (s := s) hs
  have h3 : s.Frame A { t.enterStates.evaluateInterlock with
      mve := { t.enterStates.evaluateInterlock.mve with requests := t.entryRequests } } :=
    M.mve (h.trans h2) ⟨rfl, rfl, rfl, rfl, rfl⟩
  unfold State.enterGroup
  dsimp only
  split
  · exact M.trip _ (M.syncHold (M.select h3))
  · exact M.syncHold (M.select h3)

/-- A change of run state of a station that is neither OFFLINE nor TRIPPED, with the RSC's other items. -/
theorem State.Frame.runTo {t : State} {new : RunState} {r : Rsc} (h : s.Frame A t)
    (ho : t.rsc.runState ≠ .offline) (ht : t.rsc.runState ≠ .tripped) (hn : new ≠ .offline)
    (hr : r.runState = (t.changeRun new).rsc.runState) : s.Frame A { t.changeRun new with rsc := r } := by
  have h1 : t.Still (t.changeRun new) := State.changeRun_frame ho hn (.inr ht)
  exact h.trans (h1.withRsc ho (.inr ht) (by rw [hr, State.changeRun_runState]; exact hn))

theorem State.Frame.crystalFails {t : State} (hA : A .crystal) (h : s.Frame A t) :
    s.Frame A t.crystalFails := by
  unfold State.crystalFails
  split
  · refine State.Frame.trans ?_ (State.trip_still _ _)
    exact
      { h with
        image := h.image
        cfg := fun hn => absurd hA hn
        reception := fun _ hn => absurd hA hn
        events := fun hn k hk => by
          rw [State.raise_has]
          simp [h.events hn k hk] }
  · exact h

theorem State.Frame.duplicate {t : State} (hA : A .reception) (h : s.Frame A t) : s.Frame A t.duplicate := by
  unfold State.duplicate
  refine State.Frame.trans ?_ (State.trip_still _ _)
  exact
    { h with
      reception := fun hn => absurd hA hn
      events := fun hn k hk => by
        rw [State.raise_has]
        simp [h.events hn k hk] }

/-- A command that is neither a reset nor the end of a load touches the parts it is said to touch alone. -/
theorem State.Frame.kept (hreset : ¬ A .reset) (hload : ¬ A .load) (htime : ¬ A .time)
    (hs : A .sample → A .measure) : Kept A (s.Frame A) :=
  have M := State.Frame.moveInv (s := s) hs
  { powerOn := fun h => absurd h hreset
    pinned := fun h => absurd h hreset
    assertReset := fun h => absurd h hreset
    watchOver := fun h => absurd h htime
    advance := fun h => absurd h htime
    queue := fun h => absurd h htime
    loadValid := fun h => absurd h hload
    loadInvalid := fun h => absurd h hload
    crystalFails := State.Frame.crystalFails
    raise := M.raise
    own := fun h => { h with }
    echo := fun hA h => { h with ordered := fun hn => absurd hA hn }
    forget := fun hA h => { h with events := fun hn => absurd hA hn }
    lbi := fun h hl _ =>
      { h with reception := fun hn hc => (h.reception hn hc).trans (hl.resolve_left hn) }
    peers := fun hA h _ => { h with peers := fun hn => absurd hA hn }
    mfe := fun hA h _ => { h with mfe := fun hn => absurd hA hn }
    selection := fun {t} n hA h => { h with account := fun hn => absurd hA hn }
    newLiner := fun hA h => { h with account := fun hn => absurd hA hn }
    cap := fun _ hA h => { h with ordered := fun hn => absurd hA hn }
    alePeriod := fun {t} h => h.trans
      { (State.Frame.refl t : t.Still t) with ordered := fun _ => ⟨rfl, t.aleResult_cap, rfl⟩ }
    writeGap := fun _ hA h => { h with ordered := fun hn => absurd hA hn }
    duplicate := fun hA h _ => h.duplicate hA
    cwu := M.cwu
    timers := fun {t a b c d} h hg => h.trans
      ((State.Frame.refl t : t.Still t).withRsc (RunState.ne_offline_of_inGroup hg)
        (.inr fun hc => by rw [hc] at hg; cases hg) (RunState.ne_offline_of_inGroup hg))
    trip := M.trip
    setHold := fun h _ => M.setHold _ h
    startClearing := fun h _ =>
      M.request _ (M.changeHold _ (h.moves rfl ⟨rfl, rfl, rfl, rfl⟩))
    reduceTest := M.reduceTest
    stopTest := M.stopTest
    request := M.request
    gapNotice := M.gapNotice
    loadNotice := M.loadNotice
    settleExpired := M.settleExpired
    recordExpired := M.recordExpired
    remainingExpired := M.remainingExpired
    retry := M.retry
    discardFault := M.discardFault
    enterGroup := fun h hr => h.enterGroup hs hr
    spin := fun {t} h hr => h.trans
      ((State.Frame.refl t : t.Still t).withRsc (by simp [hr]) (.inr (by simp [hr])) (by simp [hr]))
    start := fun h hr => h.runTo (by simp [hr]) (by simp [hr]) (fun hc => by cases hc) rfl
    stopStarting := fun h hr => h.runTo (by simp [hr]) (by simp [hr]) (fun hc => by cases hc) rfl
    stopTurning := fun {t} h hr =>
      have hg := RunState.inGroup_of_isTurning hr
      h.runTo (RunState.ne_offline_of_inGroup hg) (fun hc => by rw [hc] at hg; cases hg)
        (fun hc => by cases hc) rfl
    leaveGroup := fun {t} h hg => h.trans (State.changeRun_frame (RunState.ne_offline_of_inGroup hg)
      (fun hc => by cases hc) (.inr fun hc => by rw [hc] at hg; cases hg))
    clearTrip := fun {t} hA h hr _ =>
      have ho : t.rsc.runState ≠ .offline := by simp [hr]
      h.join ((State.changeRun_frame ho (fun hc => by cases hc) (.inl hA)).withRsc ho (.inl hA)
        (by rw [State.changeRun_runState]; exact fun hc => by cases hc))
    startLimit := fun h hr => h.runTo (by simp [hr]) (by simp [hr]) (fun hc => by cases hc) rfl }

end

/-! ### All commands -/

/-- Every command but a reset and the end of a load touches its own parts alone. -/
theorem exec_frame {i : Instr} {s t : State} (hi : i.isReset = false)
    (hl : ∀ bytes, i ≠ .imageLoadEnd bytes) (e : exec i s = .next t) :
    s.Frame (· ∈ partsTouched i) t := by
  have hnot : .reset ∉ partsTouched i ∧ .load ∉ partsTouched i ∧ .time ∉ partsTouched i ∧
      (.sample ∈ partsTouched i → .measure ∈ partsTouched i) := by
    cases i
    case powerOnReset | pinReset | resetAsserted => cases hi
    case imageLoadEnd bytes => exact absurd rfl (hl bytes)
    all_goals simp [partsTouched]
  obtain ⟨hreset, hload, htime, hs⟩ := hnot
  exact (State.Frame.kept hreset hload htime hs).exec i (fun _ h => h) (.refl s) e

theorem State.loadValid_pending (s : State) (i : Image) (records : List MoveRecord) :
    (s.loadValid i records).pending = s.pending := by
  have h : (s.handOver i records).enterReady.pending = s.pending := (State.changeRun_keeps _ _).pending
  unfold State.loadValid
  dsimp only
  split
  · exact h
  · exact (State.trip_keeps _ _).pending.trans h

/-- Every command answers a next state with the queue as it was. -/
theorem exec_next (i : Instr) (s : State) : ∃ t, exec i s = .next t ∧ t.pending = s.pending := by
  cases hi : i.isReset
  · obtain ⟨f, hf⟩ := exec_eq_event i s hi
    have hnext : ∃ t, exec i s = .next t := by
      rw [hf, State.event]
      split <;> exact ⟨_, rfl⟩
    obtain ⟨t, ht⟩ := hnext
    refine ⟨t, ht, ?_⟩
    by_cases hl : ∀ bytes, i ≠ .imageLoadEnd bytes
    · exact (exec_frame hi hl ht).pending
    · simp only [ne_eq, not_forall, not_not] at hl
      obtain ⟨bytes, rfl⟩ := hl
      cases hh : s.cfg.held
      · have e : exec (.imageLoadEnd bytes) s = .next (s.imageLoadEnd bytes).drive :=
          s.event_of_free (fun t => t.imageLoadEnd bytes) hh
        rw [e] at ht
        cases ht
        change (s.imageLoadEnd bytes).pending = s.pending
        unfold State.imageLoadEnd
        split
        · split
          · exact State.loadValid_pending _ _ _
          · rfl
        all_goals rfl
      · have e : exec (.imageLoadEnd bytes) s = .next s :=
          s.event_of_held (fun t => t.imageLoadEnd bytes) hh
        rw [e] at ht
        cases ht
        rfl
  · cases i <;> cases hi <;> exact ⟨_, rfl, rfl⟩

theorem order_not_touched {i : Instr} (hb : ∀ b f, i ≠ .receivedByte b f) (h : orderParts i = none) :
    .order ∉ partsTouched i := by
  cases i
  case receivedByte b f => exact absurd rfl (hb b f)
  case unknownKind head kind arg =>
    unfold orderParts at h
    dsimp only at h
    split at h <;> cases h
  all_goals first | cases h; done | simp [partsTouched]

/-- The commands that touch the receiving side. -/
theorem reception_not_touched {i : Instr} (hb : ∀ b f, i ≠ .receivedByte b f) (h : orderParts i = none)
    (hx : ∀ own x, i ≠ .stateTelegram own x) (hg : i ≠ .idleGap) (hd : i ≠ .invalidTelegramDiscard)
    (hp : i ≠ .periodExpiry) : .reception ∉ partsTouched i := by
  have ho := order_not_touched hb h
  cases i
  case receivedByte b f => exact absurd rfl (hb b f)
  case stateTelegram own x => exact absurd rfl (hx own x)
  all_goals simp_all [partsTouched]

/-- The commands that touch the measured quantities, the conditions and the accepted levels. -/
theorem measure_not_touched {i : Instr} (hb : ∀ b f, i ≠ .receivedByte b f) (h : orderParts i = none)
    (hs : ∀ c n, i ≠ .sampleEvent c n) (hpulse : i ≠ .scalePulse) (hta : i ≠ .trampActiveEdge)
    (hti : i ≠ .trampInactiveEdge) (hpa : i ≠ .pullcordActiveEdge) (hpi : i ≠ .pullcordInactiveEdge)
    (hra : i ≠ .runFbActiveEdge) (hri : i ≠ .runFbInactiveEdge) (hp : i ≠ .periodExpiry) :
    .measure ∉ partsTouched i := by
  have ho := order_not_touched hb h
  cases i
  case receivedByte b f => exact absurd rfl (hb b f)
  case sampleEvent c n => exact absurd rfl (hs c n)
  all_goals simp_all [partsTouched]

/-- Settles O4: what a command leaves alone is what it does not touch. -/
theorem commandsKeepOtherBlocks : Obligations.CommandsKeepOtherBlocks := by
  intro i s
  obtain ⟨t, ht, hp⟩ := exec_next i s
  refine ⟨t, ht, hp, fun hi hl => ?_⟩
  have hf := exec_frame hi hl ht
  have hcrystal : i ≠ .crystalFailure → .crystal ∉ partsTouched i := by
    cases i <;> simp [partsTouched]
  refine ⟨fun hc => hf.cfg (hcrystal hc), hf.image, hf.offline, fun hb => ?_⟩
  refine ⟨fun ho => hf.ordered (order_not_touched hb ho), fun hperiod htelegram => hf.peers ?_,
    fun ho hs => hf.account (order_not_touched hb ho) ?_,
    fun ho hs h1 h2 h3 h4 h5 h6 h7 h8 =>
      hf.mfe (measure_not_touched hb ho hs h1 h2 h3 h4 h5 h6 h7 h8),
    fun ho hx hg hd hperiod hc => ?_, fun hack hun => hf.events ?_, fun hclear hun => hf.tripped ?_⟩
  · cases i <;> simp_all [partsTouched]
  · cases i <;> simp_all [partsTouched]
  · obtain ⟨hrx, hbytes, -, hsilent, hquiet⟩ :=
      hf.reception (reception_not_touched hb ho hx hg hd hperiod) (hcrystal hc)
    exact ⟨hrx, hbytes, hsilent, hquiet⟩
  · cases i <;> simp_all [partsTouched]
  · cases i <;> simp_all [partsTouched]

end Sys2Proof.Machine

/-! PROOFS. The bus: the receiving side, early telegrams and attempts (chapter 1). -/

namespace Sys2Proof.Machine

/-! ### The receiving side -/

theorem State.receives_iff (s : State) :
    s.receives = true ↔ s.rsc.runState ≠ .offline ∧ s.cfg.clock = .crystal := by
  simp [State.receives]

theorem lengthByte_append {bytes : List Byte} (b : Byte) (h : 2 ≤ bytes.length) :
    lengthByte (bytes ++ [b]) = lengthByte bytes := by
  match bytes, h with
  | _ :: _ :: _, _ => rfl

theorem lengthByte_second {bytes : List Byte} (b : Byte) (h : bytes.length = 1) :
    lengthByte (bytes ++ [b]) = b.toNat := by
  match bytes, h with
  | [_], _ => rfl

/-- A length byte is refused exactly as the second byte, and outside the lengths of telegrams. -/
theorem badLength_append (bytes : List Byte) (b : Byte) :
    badLength (bytes ++ [b]) = true ↔ bytes.length = 1 ∧ (b.toNat < 10 ∨ 48 < b.toNat) := by
  unfold badLength smallestTelegram largestTelegram
  by_cases h : bytes.length = 1
  · simp [lengthByte_second b h, h]
  · simp [h]

/-- Outside OFFLINE a byte restarts the idle time and goes to a receiving side that runs. -/
theorem exec_receivedByte {s : State} (b : Byte) (f : Bool) (hh : s.cfg.held = false)
    (ho : s.rsc.runState ≠ .offline) :
    exec (.receivedByte b f) s =
      .next
        (State.drive
          (if s.receives then State.receiveByte { s with lbi := { s.lbi with idleTime := 0 } } b f
          else { s with lbi := { s.lbi with idleTime := 0 } })) := by
  refine (s.event_of_free (fun t => t.mediumByte b f) hh).trans ?_
  unfold State.mediumByte
  rw [if_neg (by simpa using ho)]
  rfl

/-- A byte that a collection only stores. -/
theorem State.collectByte_stored {s : State} {b : Byte}
    (h : (s.lbi.rxBytes.length = 1 ∧ 10 ≤ b.toNat ∧ b.toNat ≤ 48) ∨
      (2 ≤ s.lbi.rxBytes.length ∧ s.lbi.rxBytes.length + 1 ≠ lengthByte s.lbi.rxBytes)) :
    s.collectByte b = { s with lbi := { s.lbi with rxBytes := s.lbi.rxBytes ++ [b] } } := by
  have hbad : ¬ badLength (s.lbi.rxBytes ++ [b]) = true := by
    rw [badLength_append]; omega
  have hend : ¬ (2 ≤ (s.lbi.rxBytes ++ [b]).length ∧
      (s.lbi.rxBytes ++ [b]).length = lengthByte (s.lbi.rxBytes ++ [b])) := by
    rw [List.length_append, List.length_singleton]
    rcases h with ⟨h1, hlow, -⟩ | ⟨h2, hlen⟩
    · rw [lengthByte_second b h1]; omega
    · rw [lengthByte_append b h2]; omega
  unfold State.collectByte
  rw [if_neg hbad, if_neg hend]

theorem State.collectByte_badLength {s : State} {b : Byte} (h1 : s.lbi.rxBytes.length = 1)
    (hb : b.toNat < 10 ∨ 48 < b.toNat) : s.collectByte b = { s with lbi := s.lbi.hunt } := by
  unfold State.collectByte
  rw [if_pos ((badLength_append _ _).2 ⟨h1, hb⟩)]

/-- Settles O25, state by state of the receiving side. -/
theorem receiverCollects : Obligations.ReceiverCollects := by
  refine ⟨fun s b f hh => ⟨fun ho => ?_, fun ho => ?_⟩, State.receives_iff, fun _ => rfl, fun s hh => ?_⟩
  · refine (s.event_of_free (fun t => t.mediumByte b f) hh).trans ?_
    simp [State.mediumByte, ho]
  · rw [exec_receivedByte b f hh ho]
    refine ⟨fun h => ?_, fun hr harmed hb hf => ?_, fun hr h => ?_, fun hr hrx hf h => ?_⟩
    · cases hr : s.receives
      · rfl
      · have hrx : s.lbi.rx = .hunt := by simpa [hr] using h
        simp [State.receiveByte, hrx]
    · simp [hr, State.receiveByte, harmed, hb, hf, delimiter]
    · rw [if_pos hr]
      rcases h with ⟨hrx, hb⟩ | ⟨hrx, hf⟩ | ⟨hrx, h1, hb⟩
      · have hn : ¬ (!f && b == delimiter) = true := by
          rcases hb with hb | hf
          · simp [delimiter, hb]
          · simp [hf]
        simp only [State.receiveByte, hrx, if_neg hn]
        rfl
      · simp only [State.receiveByte, hrx, hf]
        rfl
      · simp only [State.receiveByte, hrx]
        cases f
        · exact congrArg (fun t => Host.Outcome.next (State.drive t)) (State.collectByte_badLength h1 hb)
        · rfl
    · rw [if_pos hr]
      simp only [State.receiveByte, hrx, hf]
      exact congrArg (fun t => Host.Outcome.next (State.drive t)) (State.collectByte_stored h)
  · rw [show exec .idleGap s = .next s.idleGap.drive from s.event_of_free _ hh,
      show exec .invalidTelegramDiscard s = .next s.discardTelegram.drive from s.event_of_free _ hh]
    unfold State.idleGap State.discardTelegram
    refine ⟨fun hr => by simp [hr], fun hr => ⟨fun hrx => ?_, fun hrx => ?_, ?_⟩⟩
    · cases h : s.lbi.rx <;> simp_all [Lbi.hunt]
    · simp [hr, hrx]
    · simp [hr, State.tookTelegram, Lbi.hunt]

/-! ### The sending side -/

theorem State.sends_iff (s : State) :
    s.sends = true ↔ s.rsc.runState ≠ .offline ∧ s.cfg.clock = .crystal ∧ s.lbi.inhibit = false := by
  simp [State.sends, and_assoc]

/-- Settles O26, by the states of the sending side. -/
theorem earlyTelegramBegun : Obligations.EarlyTelegramBegun := by
  refine fun s => ⟨s.sends_iff, fun h => by simp [State.early, h], fun h => ⟨fun ht => ?_, fun ht => ?_, ?_⟩⟩
  · simp [State.early, h, ht, Lbi.beginEarly]
  · simp [State.early, h, ht]
  · rintro (ht | ht) <;> simp [State.early, h, ht]

/-- Settles O27. -/
theorem attemptTakesContents : Obligations.AttemptTakesContents := by
  intro s hh
  rw [show exec .attemptStart s = .next s.attemptStart.drive from s.event_of_free _ hh,
    show exec .backoffEnd s = .next s.backoffEnd.drive from s.event_of_free _ hh]
  unfold State.attemptStart State.backoffEnd
  refine ⟨fun ht => by rw [ht]; rfl, fun ht => by rw [ht]; rfl, fun ht => ?_, fun ht => ?_⟩
  · cases h : s.lbi.tx <;> simp_all
  · cases h : s.lbi.tx <;> simp_all

/-- What a sending side that entered IDLE goes on with. -/
theorem Lbi.followUp_of_none {l : Lbi} (h : l.earlyPending = false) :
    l.followUp = { l with tx := .idle, attempts := 0 } := by
  simp [Lbi.followUp, h]

theorem Lbi.followUp_of_pending {l : Lbi} (h : l.earlyPending = true) :
    l.followUp =
      { l with tx := .waitIdle, attempts := 0, periodTimer := .running 0, earlyPending := false } := by
  simp [Lbi.followUp, h, Lbi.beginEarly]

/-- The state after the fourth loss of a telegram. -/
def State.givenUp (s : State) : State :=
  State.raise
    { s with
      lbi := { s.lbi with contents := none, idleTime := 0, tx := .idle, attempts := 0 }.followUp }
    .busContention

theorem State.attemptLost_of_last {s : State} (ht : s.lbi.tx = .sending) (h : 3 ≤ s.lbi.attempts) :
    s.attemptLost = s.givenUp := by
  unfold State.attemptLost lossLimit
  rw [ht]
  exact if_neg (by simpa using h)

/-- Settles O28: an attempt ends by its outcome, its count of losses and the flag of an early telegram. -/
theorem attemptOutcomes : Obligations.AttemptOutcomes := by
  intro s hh
  rw [show exec .attemptSucceeds s = .next s.attemptSucceeds.drive from s.event_of_free _ hh,
    show exec .attemptLost s = .next s.attemptLost.drive from s.event_of_free _ hh]
  refine ⟨fun ht => ?_, fun ht => ⟨fun he => ?_, fun he => ?_, fun hl => ?_, fun hl => ?_⟩⟩
  · unfold State.attemptSucceeds State.attemptLost
    cases h : s.lbi.tx <;> simp_all
  · unfold State.attemptSucceeds
    rw [ht]
    simp [Lbi.followUp_of_none, he]
  · unfold State.attemptSucceeds
    rw [ht]
    simp [Lbi.followUp_of_pending, he]
  · unfold State.attemptLost lossLimit
    rw [ht]
    simp [hl]
  · rw [State.attemptLost_of_last ht hl]
    refine ⟨_, rfl, ?_⟩
    change s.givenUp.lbi.attempts = 0 ∧ _
    cases he : s.lbi.earlyPending <;>
      simp [State.givenUp, Lbi.followUp_of_none, Lbi.followUp_of_pending, he, EventSet.add,
        EventSet.single, EventKind.bit, State.drive]

end Sys2Proof.Machine

/-! PROOFS. Trips and changes of the hold set (chapter 5). -/

namespace Sys2Proof.Machine

/-! ### Early telegrams -/

/-- What an early telegram does to the LBI depends on the LBI, the clock and OFFLINE alone. -/
theorem State.early_lbi_congr {s t : State} (hl : t.lbi = s.lbi) (hc : t.cfg = s.cfg)
    (ho : t.rsc.runState = .offline ↔ s.rsc.runState = .offline) : t.early.lbi = s.early.lbi := by
  have hs : t.sends = s.sends := by
    rw [Bool.eq_iff_iff, State.sends_iff, State.sends_iff, hl, hc, ne_eq, ne_eq, ho]
  unfold State.early
  rw [hs, hl]
  split
  · split <;> simp
  · exact hl

/-- A second cause of an early telegram adds nothing to the first. -/
theorem State.early_early_lbi (s : State) : s.early.early.lbi = s.early.lbi := by
  have hs : s.early.sends = s.sends := by
    have hi : s.early.lbi.inhibit = s.lbi.inhibit := by
      unfold State.early
      split
      · split <;> rfl
      · rfl
    simp only [State.sends, State.early_rsc, State.early_cfg, hi]
  by_cases h : s.sends = true
  · unfold State.early at hs ⊢
    cases ht : s.lbi.tx <;> simp_all [Lbi.beginEarly]
  · rw [State.early_of_not_sends (s := s.early) (by simpa [hs] using h)]

/-- A change of the run state outside OFFLINE and TRIPPED reports itself as an early telegram. -/
theorem State.changeRun_lbi {s : State} {new : RunState} (hne : s.rsc.runState ≠ new)
    (ho : s.rsc.runState ≠ .offline) (ht : s.rsc.runState ≠ .tripped) (hn : new ≠ .offline) :
    (s.changeRun new).lbi = s.early.lbi := by
  rw [State.changeRun_of_ne hne]
  refine State.early_lbi_congr ?_ rfl ?_
  · simp [Lbi.onRunState, ht]
  · have hr : (s.rsc.onRunState new).runState = new := by
      unfold Rsc.onRunState
      split <;> rfl
    simp only [hr]
    exact ⟨fun h => absurd h hn, fun h => absurd h ho⟩

/-! ### Trips -/

theorem Ale.zero_eq (x : Ale) : x.zero = { Ale.reset with cap := x.cap } := rfl

theorem Ale.onRunState_tripped (x : Ale) (old : RunState) :
    x.onRunState old .tripped = if old.isTurning then x.zero else x := by
  cases old <;> rfl

theorem Cwu.onRunState_leave (c : Cwu) (role : Role) {old new : RunState} (hold : old.inGroup = true)
    (hnew : new.inGroup = false) : (c.onRunState role old new).attempts = 0 := by
  unfold Cwu.onRunState
  simp only [hold, hnew, Bool.not_false, Bool.and_self, if_true]
  split <;> rfl

theorem Cwu.onRunState_crusher (c : Cwu) {old new : RunState} (hnew : new.isTurning = false) :
    (c.onRunState .crusher old new).secondsTimer = .stopped := by
  unfold Cwu.onRunState
  simp [hnew]

theorem State.trip_sameTable (s : State) (c : TripCause) : s.mve.SameTable (s.trip c).mve := by
  rcases s.trip_cases c with ⟨-, e⟩ | ⟨-, -, e⟩ <;> rw [e]
  · exact .refl _
  · exact s.changeRun_sameTable _

theorem State.trip_sameRecords (s : State) (c : TripCause) : s.cwu.SameRecords (s.trip c).cwu := by
  rcases s.trip_cases c with ⟨-, e⟩ | ⟨-, -, e⟩ <;> rw [e]
  · exact .refl _
  · exact s.changeRun_sameRecords _

/-- Settles O32: a trip outside OFFLINE and TRIPPED is a change of run state with the RSC's items anew. -/
theorem tripTaken : Obligations.TripTaken := by
  intro s c
  rcases s.trip_cases c with ⟨hr, e⟩ | ⟨ho, ht, e⟩
  · exact ⟨fun _ => e, fun ho ht => absurd hr (by simp [ho, ht])⟩
  · refine ⟨fun hr => absurd hr (by simp [ho, ht]), fun _ _ => ?_⟩
    have hkeeps := s.trip_keeps c
    rw [e] at hkeeps ⊢
    have hmve : (s.changeRun .tripped).mve = s.mve.abort := State.changeRun_tripped_mve ht
    have hale : (s.changeRun .tripped).ale = if s.rsc.runState.isTurning then s.ale.zero else s.ale := by
      rw [State.changeRun_of_ne ht, State.early_ale, Ale.onRunState_tripped]
    have hcwu : (s.changeRun .tripped).cwu =
        s.cwu.onRunState s.cfg.image.role s.rsc.runState .tripped := by
      rw [State.changeRun_of_ne ht, State.early_cwu]
    refine ⟨rfl, ?_, by simp [hmve], by simp [hmve], by simp [hmve], ?_, ?_, ?_,
      s.changeRun_sameTable _, fun hturn => ?_, fun hturn => ?_, fun hgroup => ?_, fun hrole => ?_,
      s.changeRun_sameRecords _, State.changeRun_lbi ht ho ht (fun hc => by cases hc),
      State.changeRun_mfe _ _, hkeeps⟩
    · rw [State.raise_evu]
      simp [EventSet.add, EventSet.single, EventKind.bit]
    · simp [hmve, Mve.abort, Mve.discard]
    · simp [hmve, Mve.abort, Mve.discard]
    · simp [hmve, Mve.abort, Mve.discard]
    · simp [hale, hturn, Ale.zero_eq]
    · simp [hale, hturn]
    · simpa [hcwu] using Cwu.onRunState_leave _ _ hgroup rfl
    · simpa [hcwu, hrole] using Cwu.onRunState_crusher _ rfl

/-! ### The hold set -/

theorem RunState.inGroup_iff (r : RunState) :
    r.inGroup = true ↔ r = .running ∨ r = .holding ∨ r = .stopping := by
  cases r <;> simp [RunState.inGroup]

theorem RunState.isTurning_iff (r : RunState) : r.isTurning = true ↔ r = .running ∨ r = .holding := by
  cases r <;> simp [RunState.isTurning]

theorem RunState.withHold_of_inGroup {r : RunState} (h : HoldSet) (hg : r.inGroup = true) :
    r.withHold h =
      if r = .stopping then .stopping else if h = HoldSet.empty then .running else .holding := by
  cases r <;> simp [RunState.withHold, RunState.inGroup, HoldSet.isEmpty_iff] at hg ⊢

/-- The causes that follow their owners at the end of an operation. -/
theorem State.syncHold_eq (s : State) :
    s.syncHold =
      s.setHold
        { s.rsc.hold with
          move := decide (s.mve.feed = .stop)
          moveFault := s.mve.parked.isSome
          tramp := decide (s.cwu.attempts ≠ 0) } := by
  have h1 : (s.mve.feed == Feed.stop) = decide (s.mve.feed = .stop) := by
    rw [Bool.eq_iff_iff]; simp
  have h2 : (s.cwu.attempts != 0) = decide (s.cwu.attempts ≠ 0) := by
    rw [Bool.eq_iff_iff]; simp
  unfold State.syncHold
  rw [h1, h2]

/-- The state with the new hold set, before RUNNING and HOLDING follow it. -/
def State.holding (s : State) (h : HoldSet) : State :=
  { s with
    ale := if s.rsc.hold.isEmpty && !h.isEmpty then s.ale.zero else s.ale
    rsc := { s.rsc with hold := h } }

theorem State.setHold_of_ne {s : State} {h : HoldSet} (hg : s.rsc.runState.inGroup = true)
    (hne : s.rsc.hold ≠ h) :
    s.setHold h = State.early ((s.holding h).changeRun (s.rsc.runState.withHold h)) := by
  have hn : ¬ (s.rsc.hold == h || !s.rsc.runState.inGroup) = true := by simp [hne, hg]
  unfold State.setHold
  rw [if_neg hn]
  rfl

theorem State.changeRun_ale (s : State) (new : RunState) :
    (s.changeRun new).ale = s.ale.onRunState s.rsc.runState new := by
  rcases s.changeRun_eq new with ⟨rfl, e⟩ | ⟨-, l, e⟩ <;> rw [e]
  cases h : s.rsc.runState <;> rfl

/-- Within the running group a change of run state keeps all of the CWU but its seconds timer. -/
theorem State.changeRun_cwu_inGroup (s : State) {new : RunState} (hnew : new.inGroup = true) :
    (s.changeRun new).cwu = { s.cwu with secondsTimer := (s.changeRun new).cwu.secondsTimer } := by
  rcases s.changeRun_eq new with ⟨-, e⟩ | ⟨-, l, e⟩ <;> rw [e]
  dsimp only
  unfold Cwu.onRunState
  simp only [hnew, Bool.not_true, Bool.and_false, Bool.false_eq_true, if_false]
  split <;> rfl

/-- In the running group the ALE zeroes exactly when the hold set becomes non-empty. -/
theorem State.setHold_ale {s : State} {h : HoldSet} (hc : s.rsc.coherent)
    (hg : s.rsc.runState.inGroup = true) (hne : s.rsc.hold ≠ h) :
    (s.setHold h).ale = if s.rsc.hold = HoldSet.empty then s.ale.zero else s.ale := by
  obtain ⟨-, -, -, hrun, -⟩ := hc
  rw [State.setHold_of_ne hg hne, State.early_ale]
  by_cases he : s.rsc.hold = HoldSet.empty
  · have hb : h.isEmpty = false := by
      simpa [← HoldSet.isEmpty_iff] using fun hh : h = HoldSet.empty => hne (he.trans hh.symm)
    have hale : (s.holding h).ale = s.ale.zero := by
      simp [State.holding, (HoldSet.isEmpty_iff _).2 he, hb]
    rw [if_pos he]
    rcases (s.holding h).changeRun_ale_cases (s.rsc.runState.withHold h) with e | e <;>
      rw [e, hale]
    rfl
  · have hb : s.rsc.hold.isEmpty = false := by simpa [← HoldSet.isEmpty_iff] using he
    have hale : (s.holding h).ale = s.ale := by simp [State.holding, hb]
    rw [if_neg he, State.changeRun_ale, hale]
    change s.ale.onRunState s.rsc.runState _ = s.ale
    have hnot : s.rsc.runState ≠ .running := fun hr => he (hrun hr)
    rcases (RunState.inGroup_iff _).1 hg with hr | hr | hr
    · exact absurd hr hnot
    · rw [hr]
      cases hh : h.isEmpty <;> simp [RunState.withHold, hh, Ale.onRunState]
    · rw [hr]
      rfl

theorem State.setHold_lbi {s : State} {h : HoldSet} (hg : s.rsc.runState.inGroup = true)
    (hne : s.rsc.hold ≠ h) : (s.setHold h).lbi = s.early.lbi := by
  have ho := RunState.ne_offline_of_inGroup hg
  have ht : s.rsc.runState ≠ .tripped := fun hc => by rw [hc] at hg; cases hg
  have hbase : (s.holding h).early.lbi = s.early.lbi := State.early_lbi_congr rfl rfl Iff.rfl
  rw [State.setHold_of_ne hg hne]
  by_cases hr : s.rsc.runState = s.rsc.runState.withHold h
  · have e : (s.holding h).changeRun (s.rsc.runState.withHold h) = s.holding h := by
      rw [← hr]
      simp [State.changeRun, State.holding]
    rw [e, hbase]
  · have hw := RunState.withHold_ne_offline h ho
    have hl : ((s.holding h).changeRun (s.rsc.runState.withHold h)).lbi = (s.holding h).early.lbi :=
      State.changeRun_lbi hr ho ht hw
    have ho' : ((s.holding h).changeRun (s.rsc.runState.withHold h)).rsc.runState = .offline ↔
        (s.holding h).early.rsc.runState = .offline := by
      rw [State.changeRun_runState, State.early_rsc]
      exact ⟨fun hc => absurd hc hw, fun hc => absurd hc ho⟩
    rw [State.early_lbi_congr hl (by simp) ho', State.early_early_lbi, hbase]

/-- Settles O33: the effect of a new hold set, block by block. -/
theorem holdSetChanged : Obligations.HoldSetChanged := by
  intro s h
  refine ⟨s.syncHold_eq, RunState.inGroup_iff _, RunState.isTurning_iff _, fun hc => ⟨rfl, ?_, ?_⟩⟩
  · rintro (hg | hh)
    · exact State.setHold_of_not_inGroup h hg
    · simp [State.setHold, hh]
  · intro hg hne
    have hin : (s.rsc.runState.withHold h).inGroup = true := RunState.withHold_inGroup _ _ hg
    have hrsc : (s.setHold h).rsc = { s.rsc with hold := h, runState := s.rsc.runState.withHold h } := by
      rw [State.setHold_of_ne hg hne, State.early_rsc, (State.changeRun_inGroup hin).2.2]
      rfl
    have hmve : (s.setHold h).mve = s.mve := (State.setHold_effect h hg).2.1
    have hale := State.setHold_ale hc hg hne
    have hcwu : (s.setHold h).cwu = { s.cwu with secondsTimer := (s.setHold h).cwu.secondsTimer } := by
      rw [State.setHold_of_ne hg hne, State.early_cwu]
      exact State.changeRun_cwu_inGroup _ hin
    refine ⟨?_, fun he => ?_, fun he => ?_, hmve, hcwu, State.setHold_lbi hg hne,
      State.setHold_evu _ _, State.setHold_mfe _ _, s.setHold_keeps h⟩
    · rw [hrsc, RunState.withHold_of_inGroup h hg]
    · rw [hale, if_pos he, Ale.zero_eq]
    · rw [hale, if_neg he]

end Sys2Proof.Machine

/-! PROOFS. Telegrams that come in: bytes that complete one, STATE telegrams, and the checks of an order
(chapters 1, 2 and 9). -/

namespace Sys2Proof.Machine

/-! ### Completed telegrams -/

/-- The byte that completes a telegram hands the whole of it on. -/
theorem exec_receivedByte_complete {s : State} {b : Byte} (hh : s.cfg.held = false) (hr : s.receives = true)
    (hrx : s.lbi.rx = .collect) (h3 : 3 ≤ (s.lbi.rxBytes ++ [b]).length)
    (hlen : (s.lbi.rxBytes ++ [b]).length = lengthByte (s.lbi.rxBytes ++ [b])) :
    exec (.receivedByte b false) s =
      .next
        (State.drive
          (State.completeTelegram { s with lbi := { s.lbi with idleTime := 0 } } (s.lbi.rxBytes ++ [b]))) := by
  have hbad : ¬ badLength (s.lbi.rxBytes ++ [b]) = true := by
    rw [badLength_append]
    rw [List.length_append, List.length_singleton] at h3
    omega
  have hcollect : State.collectByte { s with lbi := { s.lbi with idleTime := 0 } } b =
      State.completeTelegram { s with lbi := { s.lbi with idleTime := 0 } } (s.lbi.rxBytes ++ [b]) := by
    unfold State.collectByte
    dsimp only
    rw [if_neg hbad, if_pos ⟨by omega, hlen⟩]
  rw [exec_receivedByte b false hh (State.runState_of_receives hr), if_pos hr]
  refine congrArg (fun t => Host.Outcome.next (State.drive t)) (Eq.trans ?_ hcollect)
  unfold State.receiveByte
  dsimp only
  rw [hrx]
  rfl

/-- Settles O24: the kinds of a complete telegram act as their commands. -/
theorem completedBytesActAsTelegram : Obligations.CompletedBytesActAsTelegram := by
  intro s b hh hr hrx h3 hlen
  rw [exec_receivedByte_complete hh hr hrx h3 hlen]
  unfold State.completeTelegram
  refine ⟨fun hd => ?_, fun t hd => ?_, fun bytes t => ?_, fun o hd => ?_⟩
  · rw [show exec .invalidTelegramDiscard s = .next s.discardTelegram.drive from s.event_of_free _ hh, hd]
    unfold State.discardTelegram
    rw [if_pos hr]
    rfl
  · rw [show exec (.stateTelegram (s.ownBytes (s.lbi.rxBytes ++ [b]) t) t) s =
        .next (s.stateTelegram (s.ownBytes (s.lbi.rxBytes ++ [b]) t) t).drive from
        s.event_of_free (fun u => u.stateTelegram _ t) hh, hd]
    unfold State.stateTelegram
    rw [if_pos hr]
    rfl
  · simp [State.ownBytes, and_assoc]
  · rw [show exec (.unknownKind o.head o.kind o.arg) s =
        .next (s.order fun u => u.answerWire o).drive from
        s.event_of_free (fun u => u.order fun v => v.answerWire o) hh, hd]
    unfold State.order
    rw [if_pos hr]
    rfl

/-! ### STATE telegrams -/

theorem exec_stateTelegram {s : State} (own : Bool) (x : StateTelegram) (hh : s.cfg.held = false)
    (hr : s.receives = true) :
    exec (.stateTelegram own x) s = .next (s.tookTelegram.takeState own x).drive := by
  refine (s.event_of_free (fun u => u.stateTelegram own x) hh).trans ?_
  unfold State.stateTelegram
  rw [if_pos hr]

/-- The state in which a duplicate hands its trip to the RSC. -/
def State.inhibited (s : State) : State :=
  State.raise
    { s with lbi := { s.lbi.stopSending with inhibit := true, dupQuiet := 0 } } .duplicateNumber

/-- Settles O29: the station's own telegram is not a reception; another's inhibits sending before the trip. -/
theorem ownAndDuplicateTelegrams : Obligations.OwnAndDuplicateTelegrams := by
  intro s x hh hr hn
  have htake : ∀ own, s.tookTelegram.takeState own x =
      if own then s.tookTelegram else s.gotOrder.inhibited.trip .duplicate := by
    intro own
    exact if_pos hn
  have ho := State.runState_of_receives hr
  refine ⟨?_, (s.gotOrder.inhibited.trip .duplicate).drive, ?_, ?_⟩
  · rw [exec_stateTelegram true x hh hr, htake]
    rfl
  · rw [exec_stateTelegram false x hh hr, htake]
    rfl
  · have hk := s.gotOrder.inhibited.trip_keeps .duplicate
    have hlbi : (s.gotOrder.inhibited.trip .duplicate).lbi = s.gotOrder.inhibited.lbi :=
      State.trip_lbi_of_inhibit _ rfl
    have hrun : (s.gotOrder.inhibited.trip .duplicate).rsc.runState = .tripped :=
      State.trip_runState _ ho
    simp only [State.drive_lbi, State.drive_evu, State.drive_rsc, State.drive_mve, State.drive_cwu,
      State.drive_peers, State.drive_mfe, State.drive_echo, State.drive_cfg, State.drive_pending, hlbi, hrun,
      State.trip_mfe, hk.peers, hk.echo, hk.cfg, hk.pending]
    refine ⟨rfl, rfl, rfl, rfl, rfl, rfl, rfl, ?_, trivial, ?_, ?_, ?_, ?_, rfl, rfl, rfl, rfl, rfl⟩
    · refine (State.trip_steady _ _).events _ ?_
      simp [State.inhibited]
    · intro ht
      rw [show s.gotOrder.inhibited.trip .duplicate = s.gotOrder.inhibited from
        (tripTaken _ _).1 (.inr ht)]
      exact ⟨rfl, rfl, rfl⟩
    · intro ht
      obtain ⟨hrsc, hevents, hactive, -, hparked, -⟩ :=
        (tripTaken s.gotOrder.inhibited .duplicate).2 ho ht
      refine ⟨by rw [hrsc], by rw [hrsc]; rfl, ?_, hactive, hparked⟩
      rw [hevents]
      exact (EventSet.has_add _ .trip .trip).trans (by simp)
    · exact s.gotOrder.inhibited.trip_sameTable _
    · exact s.gotOrder.inhibited.trip_sameRecords _

/-! ### Telegrams of other stations -/

theorem Role.ofCode_isSome (c : BitVec 2) : (Role.ofCode c.toNat).isSome = true ↔ c ≠ 0#2 := by
  revert c; decide

theorem RunState.ofCode_isSome (c : BitVec 3) : (RunState.ofCode c.toNat).isSome = true ↔ c ≠ 7#3 := by
  revert c; decide

theorem Role.code_of_ofCode {c : BitVec 2} {r : Role} (h : Role.ofCode c.toNat = some r) : r.code = c := by
  revert c r; decide

theorem RunState.code_of_ofCode {c : BitVec 3} {r : RunState} (h : RunState.ofCode c.toNat = some r) :
    r.code = c := by
  revert c r; decide

theorem StateTelegram.listed_iff (x : StateTelegram) :
    StateTelegram.listed x = true ↔
      (1 ≤ x.source.toNat ∧ x.source.toNat ≤ 30) ∧ x.role ≠ 0#2 ∧ x.runState ≠ 7#3 ∧
        x.limiting.toNat ≤ 9 ∧ 1 ≤ x.position.toNat ∧
        ∀ c, x.tripCause = some c → 1 ≤ c.toNat ∧ c.toNat ≤ 8 := by
  unfold StateTelegram.listed
  cases x.tripCause <;> simp [Role.ofCode_isSome, RunState.ofCode_isSome, and_assoc]

/-- The entry of a telegram whose codes name a role and a run state. -/
theorem StateTelegram.entry_fields {x : StateTelegram} {e : PeerEntry} (h : StateTelegram.entry x = some e) :
    e.number = x.source.toNat ∧ e.role.code = x.role ∧ e.position = x.position.toNat ∧
      e.branch = x.branch.toNat ∧ e.runState.code = x.runState ∧ e.allowance = x.allowance.toNat ∧
      e.throughput = x.throughput.toNat ∧ e.level = x.level.map BitVec.toNat ∧ e.age = 0 := by
  simp only [StateTelegram.entry, Option.bind_eq_bind, Option.bind_eq_some_iff] at h
  obtain ⟨role, hrole, runState, hrun, he⟩ := h
  cases he
  exact ⟨rfl, Role.code_of_ofCode hrole, rfl, rfl, RunState.code_of_ofCode hrun, rfl, rfl, rfl, rfl⟩

theorem StateTelegram.entry_isSome {x : StateTelegram} (hrole : x.role ≠ 0#2) (hrun : x.runState ≠ 7#3) :
    (StateTelegram.entry x).isSome = true := by
  obtain ⟨r, hr⟩ := Option.isSome_iff_exists.1 ((Role.ofCode_isSome _).2 hrole)
  obtain ⟨q, hq⟩ := Option.isSome_iff_exists.1 ((RunState.ofCode_isSome _).2 hrun)
  simp [StateTelegram.entry, hr, hq]

/-- Settles O30: a foreign telegram is a reception, and a listed one goes to the table. -/
theorem foreignTelegramWritesPeer : Obligations.ForeignTelegramWritesPeer := by
  intro s own x hh hr hn listed
  have hexec : exec (.stateTelegram own x) s = .next (s.gotOrder.foreign x).drive := by
    rw [exec_stateTelegram own x hh hr]
    exact congrArg (fun t => Host.Outcome.next (State.drive t)) (if_neg hn)
  have hlisted := StateTelegram.listed_iff x
  refine ⟨fun h => ?_, fun h => StateTelegram.entry_isSome h.2.1 h.2.2.1, fun e he => ?_⟩
  · rw [hexec]
    unfold State.foreign
    rw [if_neg (fun hc => h (hlisted.1 hc))]
  · refine ⟨StateTelegram.entry_fields he, fun h => ?_⟩
    have hforeign : s.gotOrder.foreign x = s.gotOrder.takePeer e := by
      unfold State.foreign
      rw [if_pos (hlisted.2 h), he]
    rw [hexec, hforeign]
    unfold State.takePeer
    refine ⟨fun hw => ?_, fun ps hw => ?_⟩
    · rw [show writePeer s.gotOrder.cfg.image.lF e s.gotOrder.peers = none from hw]
    · rw [show writePeer s.gotOrder.cfg.image.lF e s.gotOrder.peers = some ps from hw]
      intro written told
      have hchanged : neighboursChanged s.gotOrder { s.gotOrder with peers := ps } =
          neighboursChanged s { s with peers := ps } := rfl
      refine ⟨fun hc => ?_, fun hc => ?_, _, rfl, ?_⟩
      · have hquiet : s.gotOrder.afterTable { s.gotOrder with peers := ps } = written :=
          if_neg (by rw [hchanged, hc]; exact Bool.false_ne_true)
        have hqa : s.gotOrder.afterQA written = written := if_pos ⟨rfl, rfl⟩
        exact congrArg (fun t => Host.Outcome.next (State.drive t))
          ((congrArg _ hquiet).trans hqa)
      · have htold : s.gotOrder.afterTable { s.gotOrder with peers := ps } = told :=
          if_pos (hchanged.trans hc)
        exact congrArg (fun t => Host.Outcome.next (State.drive (s.gotOrder.afterQA t))) htold
      · have hk := (State.afterTable_keeps s.gotOrder { s.gotOrder with peers := ps }).trans
          (Along.afterQA State.Keeps.along s.gotOrder _)
        exact ⟨hk.peers, hk.echo, hk.cfg, hk.pending⟩

/-! ### The checks of an order -/

/-- An order command is its checks and its owner's answer. -/
theorem exec_of_orderParts {i : Instr} {p : OrderParts} (h : orderParts i = some p) (s : State) :
    exec i s = s.orderEvent p.head p.kind p.act := by
  cases i
  case unknownKind head kind arg =>
    change (s.event fun t => t.order fun u => u.answerWire ⟨head, kind, arg⟩) = _
    unfold orderParts at h
    unfold State.answerWire
    cases hwire : Order.ofWire kind arg with
    | none =>
      simp only [hwire] at h ⊢
      cases h
      rfl
    | some order =>
      simp only [hwire] at h ⊢
      cases h
      rfl
  all_goals cases h
  all_goals rfl

theorem State.addressed_iff (s : State) (target : Byte) :
    s.addressed target = true ↔ target.toNat = s.cfg.image.number ∨ target.toNat = 31 := by
  simp [State.addressed]

theorem State.permitted_iff (s : State) (source : Byte) :
    s.permitted source = true ↔
      source.toNat ≠ 0 ∧ (source.toNat = s.cfg.image.panel1 ∨ source.toNat = s.cfg.image.panel2) := by
  simp [State.permitted]

/-- The form check passes exactly the operands that make an order. -/
theorem orderFormOk_eq (kind : Byte) (arg : Option (BitVec 24)) :
    orderFormOk kind arg = (Order.ofWire kind arg).isSome := by
  unfold orderFormOk Order.ofWire
  generalize kind.toNat = n
  rcases n with _ | _ | _ | _ | _ | _ | _ | _ | _ | _ | _ | _ | _ | _ | _ | n
  all_goals cases arg <;> rfl

/-- An order that the receiving side takes goes to the checks of its source. -/
theorem exec_of_received {i : Instr} {p : OrderParts} {s : State} (h : orderParts i = some p)
    (hh : s.cfg.held = false) (hr : s.receives = true) :
    exec i s = .next (s.gotOrder.answer p.head p.kind p.act).drive := by
  rw [exec_of_orderParts h]
  refine (s.event_of_free (fun t => t.order fun u => u.answer p.head p.kind p.act) hh).trans ?_
  unfold State.order
  rw [if_pos hr]
  rfl

/-- An order that the station takes is answered by its owner. -/
theorem exec_of_takes {i : Instr} {p : OrderParts} {s : State} (h : orderParts i = some p)
    (ht : s.takes p.head) :
    exec i s = (p.act s.gotOrder).1.answered p.head p.kind (p.act s.gotOrder).2 := by
  obtain ⟨hh, hr, ha, hp⟩ := ht
  rw [exec_of_received h hh hr]
  have e : s.gotOrder.answer p.head p.kind p.act =
      (p.act s.gotOrder).1.setEcho p.head.tag p.kind (p.act s.gotOrder).2 :=
    (if_pos ha).trans (if_pos hp)
  rw [e]
  rfl

/-- Settles O53, check by check. -/
theorem orderChecks : Obligations.OrderChecks := by
  refine ⟨?_, fun h a s => ?_⟩
  · intro i p s h hh ours panel got
    have hours : s.addressed p.head.target = true ↔ ours := s.addressed_iff _
    have hpanel : s.permitted p.head.source = true ↔ panel := s.permitted_iff _
    have htakes : s.takes p.head ↔ s.receives = true ∧ ours ∧ panel := by
      unfold State.takes
      rw [hours, hpanel]
      exact ⟨fun h => h.2, fun h => ⟨hh, h⟩⟩
    have hanswer : s.receives = true → ours → panel →
        exec i s =
          .next
            (State.drive
              { (p.act got).1 with echo := some ⟨p.head.tag, p.kind, (p.act got).2⟩ }) :=
      fun hr ho hp => exec_of_takes h (htakes.2 ⟨hr, ho, hp⟩)
    refine ⟨rfl, htakes, fun _ _ _ => rfl, fun hr => ?_, fun hr => ⟨fun ho => ?_, fun ho hp => ?_,
      hanswer hr⟩, fun head kind arg hi => ?_⟩
    · rw [exec_of_orderParts h]
      refine (s.event_of_free (fun t => t.order fun u => u.answer p.head p.kind p.act) hh).trans ?_
      simp [State.order, hr]
    · rw [exec_of_received h hh hr]
      have e : s.gotOrder.answer p.head p.kind p.act = got := if_neg (fun hc => ho (hours.1 hc))
      rw [e]
    · rw [exec_of_received h hh hr]
      have e : s.gotOrder.answer p.head p.kind p.act =
          s.gotOrder.setEcho p.head.tag p.kind .notPermitted :=
        (if_pos (hours.2 ho)).trans (if_neg fun hc => hp (hpanel.1 hc))
      rw [e]
      rfl
    · subst hi
      unfold orderParts at h
      dsimp only at h
      refine ⟨fun hf => ?_, fun hf hr ho hp => ?_⟩
      · rw [orderFormOk_eq] at hf
        obtain ⟨o, hw⟩ := Option.isSome_iff_exists.1 hf
        rw [hw] at h
        cases h
        exact ⟨o, hw, rfl⟩
      · rw [hanswer hr ho hp]
        rw [orderFormOk_eq, Option.isSome_eq_false_iff, Option.isNone_iff_eq_none] at hf
        rw [hf] at h
        cases h
        rfl
  · exact ⟨rfl, rfl, rfl, rfl, rfl, rfl, rfl, rfl, rfl, rfl, rfl, rfl, rfl, rfl⟩

end Sys2Proof.Machine

/-! PROOFS. Line evaluation, and the orders to the run-state controller (chapters 5 and 9). -/

namespace Sys2Proof.Machine

/-! ### Changes of run state, block by block -/

theorem State.early_with_lbi (s : State) : s.early = { s with lbi := s.early.lbi } := by
  obtain ⟨l, h⟩ := s.early_eq
  rw [h]

/-- A change of run state within or out of the run states other than OFFLINE, with all of its effects. -/
theorem State.changeRun_eq_of_ne {s : State} {new : RunState} (hne : s.rsc.runState ≠ new)
    (ho : s.rsc.runState ≠ .offline) (hn : new ≠ .offline) :
    s.changeRun new =
      { s with
        lbi := (State.early { s with lbi := s.lbi.onRunState s.rsc.runState new }).lbi
        ale := s.ale.onRunState s.rsc.runState new
        rsc := s.rsc.onRunState new
        mve := s.mve.onRunState s.rsc.runState new
        cwu := s.cwu.onRunState s.cfg.image.role s.rsc.runState new } := by
  have hr : (s.rsc.onRunState new).runState ≠ .offline := by
    unfold Rsc.onRunState
    split <;> exact hn
  rw [State.changeRun_of_ne hne, State.early_with_lbi]
  have hl := State.early_lbi_congr
    (s := { s with lbi := s.lbi.onRunState s.rsc.runState new })
    (t := { s with
      lbi := s.lbi.onRunState s.rsc.runState new
      ale := s.ale.onRunState s.rsc.runState new
      rsc := s.rsc.onRunState new
      mve := s.mve.onRunState s.rsc.runState new
      cwu := s.cwu.onRunState s.cfg.image.role s.rsc.runState new })
    rfl rfl ⟨fun h => absurd h hr, fun h => absurd h ho⟩
  rw [hl]

/-- A change between run states outside the running group, other than a trip. -/
theorem State.changeRun_outside {s : State} {new : RunState} (hne : s.rsc.runState ≠ new)
    (ho : s.rsc.runState ≠ .offline) (hg : s.rsc.runState.inGroup = false) (hn : new ≠ .offline)
    (ht : new ≠ .tripped) (hng : new.inGroup = false) :
    s.changeRun new =
      { s with
        lbi := (State.early { s with lbi := s.lbi.onRunState s.rsc.runState new }).lbi
        rsc := { s.rsc with runState := new }
        cwu :=
          { s.cwu with
            secondsTimer := if s.cfg.image.role = .crusher then .stopped else s.cwu.secondsTimer } } := by
  have hturn : new.isTurning = false := by
    cases hb : new.isTurning
    · rfl
    · rw [RunState.inGroup_of_isTurning hb] at hng; cases hng
  have hale : s.ale.onRunState s.rsc.runState new = s.ale := by
    cases h : s.rsc.runState <;> simp_all [RunState.inGroup, Ale.onRunState]
  have hmve : s.mve.onRunState s.rsc.runState new = s.mve := by
    simp [Mve.onRunState, hg, ht]
  rw [State.changeRun_eq_of_ne hne ho hn, hale, hmve, Cwu.onRunState_outside _ _ hg hturn]
  simp [Rsc.onRunState, hg]

/-- A station of RUNNING or HOLDING begins to drain. -/
theorem State.changeRun_stopping {s : State} (h : s.rsc.runState.isTurning = true) :
    s.changeRun .stopping =
      { s with
        lbi := s.early.lbi
        ale := s.ale.zero
        rsc := { s.rsc with runState := .stopping }
        cwu :=
          { s.cwu with
            secondsTimer := if s.cfg.image.role = .crusher then .stopped else s.cwu.secondsTimer } } := by
  rcases (RunState.isTurning_iff _).1 h with hr | hr <;>
  · rw [State.changeRun_eq_of_ne (by simp [hr]) (by simp [hr]) (by simp)]
    have hcwu : s.cwu.onRunState s.cfg.image.role s.rsc.runState .stopping =
        { s.cwu with
          secondsTimer := if s.cfg.image.role = .crusher then .stopped else s.cwu.secondsTimer } := by
      unfold Cwu.onRunState
      simp only [RunState.inGroup, Bool.not_true, Bool.and_false, Bool.false_eq_true, if_false, beq_iff_eq,
        RunState.isTurning]
      split <;> rfl
    rw [hcwu, hr]
    simp [Rsc.onRunState, Mve.onRunState, Ale.onRunState, Lbi.onRunState, RunState.inGroup, hr]

/-! ### Conditions on the neighbours -/

theorem PeerEntry.isRunning_iff (e : PeerEntry) : e.isRunning = true ↔ e.runState = .running := by
  simp [PeerEntry.isRunning]

theorem PeerEntry.isActive_iff (e : PeerEntry) :
    e.isActive = true ↔ e.runState = .running ∨ e.runState = .holding := RunState.isTurning_iff _

theorem State.noneActive_iff (s : State) :
    s.noneActive = true ↔ ∀ e ∈ s.downstream, e.runState ≠ .running ∧ e.runState ≠ .holding := by
  simp [State.noneActive, ← Bool.not_eq_true, PeerEntry.isActive_iff, not_or]

theorem State.drainCondition_iff (s : State) :
    s.drainCondition = true ↔
      (∀ e ∈ s.upstream, e.runState ≠ .running ∧ e.runState ≠ .holding) ∧
        s.mfe.q ≤ s.cfg.image.qIdle := by
  simp [State.drainCondition, ← Bool.not_eq_true, PeerEntry.isActive_iff, not_or]

theorem State.interlockCondition_iff {s : State} (ht : s.rsc.runState.isTurning = true) :
    s.interlockCondition = true ↔
      s.cfg.image.role ≠ .bin ∧ s.cfg.image.terminal = false ∧
        ∀ e ∈ s.downstream, e.runState ≠ .running ∧ e.runState ≠ .holding := by
  simp [State.interlockCondition, ht, ← State.noneActive_iff, and_assoc]

theorem State.proceeds_iff (s : State) :
    s.proceeds = true ↔
      s.cfg.image.terminal = true ∨
        (s.downstream ≠ [] ∧ ∀ e ∈ s.downstream, e.runState = .running) := by
  simp [State.proceeds, PeerEntry.isRunning_iff]

theorem State.downstreamCause_iff (s : State) :
    s.downstreamCause = true ↔
      s.cfg.image.role ≠ .bin ∧
        ((s.downstream = [] ∧ s.cfg.image.terminal = false) ∨
          ((∃ e ∈ s.downstream, e.runState = .holding) ∧
            ∀ e ∈ s.downstream, e.runState ≠ .running)) := by
  have hactive : s.noneActive = false ↔
      ∃ e ∈ s.downstream, e.runState = .running ∨ e.runState = .holding := by
    simp [State.noneActive, PeerEntry.isActive_iff]
  have hnone : (s.downstream.all fun e => !e.isRunning) = true ↔
      ∀ e ∈ s.downstream, e.runState ≠ .running := by
    simp [← Bool.not_eq_true, PeerEntry.isRunning_iff]
  have hsome : (s.noneActive = false ∧ ∀ e ∈ s.downstream, e.runState ≠ .running) ↔
      (∃ e ∈ s.downstream, e.runState = .holding) ∧ ∀ e ∈ s.downstream, e.runState ≠ .running := by
    rw [hactive]
    constructor
    · rintro ⟨⟨e, he, hr | hr⟩, hall⟩
      · exact absurd hr (hall e he)
      · exact ⟨⟨e, he, hr⟩, hall⟩
    · rintro ⟨⟨e, he, hr⟩, hall⟩
      exact ⟨⟨e, he, .inr hr⟩, hall⟩
  simp only [State.downstreamCause, Bool.and_eq_true, Bool.or_eq_true, Bool.not_eq_true', bne_iff_ne, hnone,
    hsome, List.isEmpty_iff]
  rw [or_comm]

/-! ### Timers that follow a condition -/

/-- A timer that starts goes on from an earlier start. -/
theorem Timer.start_eq (t : Timer) : t.start = if t = .stopped then .running 0 else t := by
  cases t <;> simp [Timer.start]

theorem Timer.follow_isRunning (b : Bool) (t : Timer) : (t.follow b).isRunning = b := by
  cases b <;> cases t <;> rfl

theorem Timer.follow_true (t : Timer) : t.follow true = t.start := rfl

theorem Timer.follow_false (t : Timer) : t.follow false = .stopped := rfl

theorem State.evaluateDrain_eq (s : State) :
    s.evaluateDrain =
      if s.rsc.runState = .stopping then
        { s with rsc := { s.rsc with drainTimer := s.rsc.drainTimer.follow s.drainCondition } }
      else s := by
  simp [State.evaluateDrain]

/-! ### The line -/

/-- A change of the hold set in the running group leaves STOPPING and the other items of the RSC. -/
theorem State.setHold_rsc (s : State) (h : HoldSet) (hg : s.rsc.runState.inGroup = true) :
    ∃ r : RunState, (s.setHold h).rsc = { s.rsc with hold := h, runState := r } ∧
      r.isTurning = s.rsc.runState.isTurning ∧ (r = .stopping ↔ s.rsc.runState = .stopping) := by
  by_cases hne : s.rsc.hold = h
  · refine ⟨s.rsc.runState, ?_, rfl, Iff.rfl⟩
    rw [show s.setHold h = s by simp [State.setHold, hne], ← hne]
  · refine ⟨s.rsc.runState.withHold h, ?_, ?_⟩
    · rw [State.setHold_of_ne hg hne, State.early_rsc,
        (State.changeRun_inGroup (RunState.withHold_inGroup _ h hg)).2.2]
      rfl
    · rcases (RunState.inGroup_iff _).1 hg with hr | hr | hr <;> rw [hr] <;>
        cases hb : h.isEmpty <;> simp [RunState.withHold, hb, RunState.isTurning]

/-- The hold set that the line gives. -/
def State.lineHeld (s : State) : State := s.setHold { s.rsc.hold with downstream := s.downstreamCause }

/-- What the line evaluation of the running group leaves: the hold set, and the two timers. -/
theorem State.evaluateLine_inGroup {s : State} (hg : s.rsc.runState.inGroup = true) :
    s.evaluateLine =
      { s.lineHeld with
        rsc :=
          { s.lineHeld.rsc with
            interlockTimer := s.rsc.interlockTimer.follow s.interlockCondition
            drainTimer :=
              if s.rsc.runState = .stopping then s.rsc.drainTimer.follow s.drainCondition
              else s.rsc.drainTimer } } := by
  have hk : s.Keeps s.lineHeld := s.setHold_keeps _
  obtain ⟨r, hr, hturn, hstop⟩ :=
    s.setHold_rsc { s.rsc.hold with downstream := s.downstreamCause } hg
  have hinter : s.lineHeld.interlockCondition = s.interlockCondition := by
    simp only [State.interlockCondition, State.noneActive, State.downstream, hk.cfg, hk.peers]
    rw [show s.lineHeld.rsc.runState.isTurning = s.rsc.runState.isTurning by
      rw [← hturn]; exact congrArg (fun x : Rsc => x.runState.isTurning) hr]
  have hdrain : s.lineHeld.evaluateInterlock.drainCondition = s.drainCondition := by
    have hq : s.lineHeld.mfe = s.mfe := State.setHold_mfe _ _
    simp only [State.drainCondition, State.upstream, State.evaluateInterlock_peers,
      State.evaluateInterlock_cfg, State.evaluateInterlock_mfe, hk.cfg, hk.peers, hq]
  have htimer : s.lineHeld.rsc.interlockTimer = s.rsc.interlockTimer :=
    (congrArg Rsc.interlockTimer hr :)
  have hdtimer : s.lineHeld.rsc.drainTimer = s.rsc.drainTimer :=
    (congrArg Rsc.drainTimer hr :)
  have hrun : s.lineHeld.rsc.runState = .stopping ↔ s.rsc.runState = .stopping := by
    rw [← hstop]
    exact iff_of_eq (congrArg (fun x : Rsc => x.runState = .stopping) hr)
  unfold State.evaluateLine
  rw [if_pos hg]
  change s.lineHeld.evaluateInterlock.evaluateDrain = _
  rw [State.evaluateDrain_eq, hdrain]
  simp only [State.evaluateInterlock_rsc, htimer, hdtimer, hinter, hrun]
  by_cases hst : s.rsc.runState = .stopping
  · rw [if_pos hst, if_pos hst]
    unfold State.evaluateInterlock
    rw [htimer, hinter]
  · rw [if_neg hst, if_neg hst, ← hdtimer]
    unfold State.evaluateInterlock
    rw [htimer, hinter]

/-- Settles O34: the evaluation in the running group, in WAIT_DOWNSTREAM and elsewhere. -/
theorem lineEvaluated : Obligations.LineEvaluated := by
  intro s idleBelow drained kept held spinning
  have hdrain : s.drainCondition = true ↔ drained := s.drainCondition_iff
  have hstart : ∀ old : Timer, old.start = kept old := Timer.start_eq
  refine ⟨hstart, hdrain, ?_, ?_, fun hg => ?_, fun hg => ?_, fun hg => ⟨fun hr hp hc => ?_, fun h => ?_⟩,
    s.downstreamCause_iff, s.proceeds_iff⟩
  · rw [State.evaluateDrain_eq]
    cases s.drainCondition
    · rfl
    · simp only [Timer.follow_true, hstart]
      rfl
  · unfold State.proceed
    simp only [Bool.or_eq_true]
    rfl
  · rw [State.evaluateLine_inGroup hg]
    rfl
  · obtain ⟨r, hr, hturn, hstop⟩ :=
      s.setHold_rsc { s.rsc.hold with downstream := s.downstreamCause } hg
    have hk : s.Keeps s.evaluateLine := s.evaluateLine_keeps
    rw [State.evaluateLine_inGroup hg] at hk ⊢
    refine ⟨congrArg Rsc.hold hr, fun ht => ?_, fun hst => ?_, (State.setHold_effect _ hg).2.1,
      State.setHold_mfe _ _, State.setHold_evu _ _, hk⟩
    · have hcond : s.interlockCondition = true ↔ idleBelow := State.interlockCondition_iff ht
      have hns : s.rsc.runState ≠ .stopping := fun h => by rw [h] at ht; cases ht
      dsimp only
      refine ⟨by rw [Timer.follow_isRunning, hcond], fun h => ?_, fun h => ?_, if_neg hns⟩
      · rw [hcond.2 h, Timer.follow_true, hstart]
      · rw [Bool.eq_false_iff.2 fun hc => h (hcond.1 hc), Timer.follow_false]
    · have hcond : s.interlockCondition = false := by
        simp [State.interlockCondition, hst, RunState.isTurning]
      dsimp only
      rw [hcond, if_pos hst]
      refine ⟨rfl, by rw [Timer.follow_isRunning, hdrain], fun h => ?_, fun h => ?_⟩
      · rw [hdrain.2 h, Timer.follow_true, hstart]
      · rw [Bool.eq_false_iff.2 fun hc => h (hdrain.1 hc), Timer.follow_false]
  · unfold State.evaluateLine State.evaluateProceed
    rw [if_neg (by simp [hg])]
    exact if_pos (by simp [hr, hp, hc])
  · unfold State.evaluateLine State.evaluateProceed
    rw [if_neg (by simp [hg])]
    refine if_neg ?_
    rcases h with h | h | h <;> simp [h]

/-! ### Orders to the RSC -/

/-- STARTING in WAIT_DOWNSTREAM, before the proceed condition is evaluated. -/
def State.waiting (s : State) : State :=
  { s with
    lbi := s.early.lbi
    rsc := { s.rsc with runState := .starting, subPhase := some .waitDownstream, startTimer := .running 0 }
    cwu :=
      { s.cwu with
        secondsTimer := if s.cfg.image.role = .crusher then .stopped else s.cwu.secondsTimer } }

theorem State.startLineTaken_of_ready {s : State} (h : s.rsc.runState = .ready) :
    s.startLineTaken = if s.proceeds then s.waiting.proceed else s.waiting := by
  have hl : s.lbi.onRunState s.rsc.runState .starting = s.lbi := by simp [Lbi.onRunState, h]
  unfold State.startLineTaken
  rw [State.changeRun_outside (by simp [h]) (by simp [h]) (by rw [h]; rfl) (by simp) (by simp) rfl, hl]
  change (if s.proceeds then s.waiting.proceed else s.waiting) = _
  rfl

/-- STOP_LINE in STARTING. -/
theorem State.stopStarting_eq {s : State} (h : s.rsc.runState = .starting) :
    s.stopStarting =
      { s with
        lbi := s.early.lbi
        rsc := { s.rsc with runState := .ready, subPhase := none, startTimer := .stopped, spinTimer := .stopped }
        cwu :=
          { s.cwu with
            secondsTimer := if s.cfg.image.role = .crusher then .stopped else s.cwu.secondsTimer } } := by
  have hl : s.lbi.onRunState s.rsc.runState .ready = s.lbi := by simp [Lbi.onRunState, h]
  unfold State.stopStarting
  rw [State.changeRun_outside (by simp [h]) (by simp [h]) (by rw [h]; rfl) (by simp) (by simp) rfl, hl]

/-- STOPPING as STOP_LINE enters it. -/
def State.stopping (s : State) : State :=
  { s with
    lbi := s.early.lbi
    ale := s.ale.zero
    rsc :=
      { s.rsc with
        runState := .stopping
        interlockTimer := .stopped
        drainTimer := s.rsc.drainTimer.follow s.drainCondition }
    cwu :=
      { s.cwu with
        secondsTimer := if s.cfg.image.role = .crusher then .stopped else s.cwu.secondsTimer } }

theorem State.stopRunning_eq {s : State} (h : s.rsc.runState.isTurning = true) :
    s.stopRunning = if s.ale.a = 0 then s.stopping else s.stopping.reduceTest := by
  unfold State.stopRunning State.afterQA
  rw [State.changeRun_stopping h]
  dsimp only
  rw [State.evaluateDrain_eq, if_pos rfl]
  change (if s.mfe.q = s.mfe.q ∧ 0 = s.ale.a then s.stopping else s.stopping.reduceTest) = _
  by_cases ha : s.ale.a = 0
  · rw [if_pos ⟨rfl, ha.symm⟩, if_pos ha]
  · rw [if_neg (fun hc => ha hc.2.symm), if_neg ha]

theorem State.clearTripTaken_eq {s : State} (h : s.rsc.runState = .tripped) :
    s.clearTripTaken =
      { s with
        lbi := (State.early { s with lbi := { s.lbi with inhibit := false } }).lbi
        rsc := { s.rsc with runState := .ready, tripCause := none }
        cwu :=
          { s.cwu with
            secondsTimer := if s.cfg.image.role = .crusher then .stopped else s.cwu.secondsTimer } } := by
  have hl : s.lbi.onRunState s.rsc.runState .ready = { s.lbi with inhibit := false } := by
    simp [Lbi.onRunState, h]
  unfold State.clearTripTaken
  rw [State.changeRun_outside (by simp [h]) (by simp [h]) (by rw [h]; rfl) (by simp) (by simp) rfl, hl]

/-- A taken order, with the owner's answer worked out. -/
theorem exec_answered {i : Instr} {p : OrderParts} {s t : State} {r : OrderResult}
    (h : orderParts i = some p) (ht : s.takes p.head) (e : p.act s.gotOrder = (t, r)) :
    exec i s = t.answered p.head p.kind r := by
  rw [exec_of_takes h ht, e]

theorem State.orderStartLine_of_ready {s : State} (h : s.rsc.runState = .ready) :
    s.orderStartLine = (if s.proceeds then s.waiting.proceed else s.waiting, .accepted) := by
  unfold State.orderStartLine
  rw [if_pos (beq_iff_eq.2 h), State.startLineTaken_of_ready h]

theorem RunState.takesStop_iff (r : RunState) :
    r.takesStop = true ↔ r = .starting ∨ r = .running ∨ r = .holding := by
  cases r <;> simp [RunState.takesStop, RunState.isTurning]

theorem State.orderStopLine_of_starting {s : State} (h : s.rsc.runState = .starting) :
    s.orderStopLine = (s.stopStarting, .accepted) := by
  unfold State.orderStopLine State.stopLineTaken
  rw [if_pos ((RunState.takesStop_iff _).2 (.inl h)), h]

theorem State.orderStopLine_of_turning {s : State} (h : s.rsc.runState = .running ∨ s.rsc.runState = .holding) :
    s.orderStopLine = (if s.ale.a = 0 then s.stopping else s.stopping.reduceTest, .accepted) := by
  have e : s.stopLineTaken = s.stopRunning := by
    unfold State.stopLineTaken
    rcases h with h | h <;> rw [h]
  unfold State.orderStopLine
  rw [if_pos ((RunState.takesStop_iff _).2 (.inr h)), e,
    State.stopRunning_eq ((RunState.isTurning_iff _).2 h)]

/-- What the two tests of CLEAR_TRIP look at. -/
theorem State.clearable_iff (s : State) :
    s.clearable = true ↔ s.mfe.pullcordIn = false ∧ s.lbi.dupQuiet = 2 := by
  simp [State.clearable]

theorem State.orderClearTrip_of_refused {s : State}
    (h : s.rsc.runState ≠ .tripped ∨ s.mfe.pullcordIn = true ∨ s.lbi.dupQuiet ≠ 2) :
    s.orderClearTrip = (s, .refusedState) := by
  refine if_neg fun hc => ?_
  rw [Bool.and_eq_true, beq_iff_eq, State.clearable_iff] at hc
  obtain ⟨hr, hp, hq⟩ := hc
  simp [hr, hp, hq] at h

/-- Settles O54, order by order and run state by run state. -/
theorem runOrders : Obligations.RunOrders := by
  intro s h ht u timed starting
  have start {t : State} {r : OrderResult} (e : u.orderStartLine = (t, r)) :
      exec (.startLine h) s = t.answered h 1#8 r :=
    exec_answered (p := ⟨h, 1#8, State.orderStartLine⟩) rfl ht e
  have stop {t : State} {r : OrderResult} (e : u.orderStopLine = (t, r)) :
      exec (.stopLine h) s = t.answered h 2#8 r :=
    exec_answered (p := ⟨h, 2#8, State.orderStopLine⟩) rfl ht e
  have hold {t : State} {r : OrderResult} (e : u.orderHold = (t, r)) :
      exec (.hold h) s = t.answered h 3#8 r :=
    exec_answered (p := ⟨h, 3#8, State.orderHold⟩) rfl ht e
  have clear {t : State} {r : OrderResult} (e : u.orderClearTrip = (t, r)) :
      exec (.clearTrip h) s = t.answered h 5#8 r :=
    exec_answered (p := ⟨h, 5#8, State.orderClearTrip⟩) rfl ht e
  refine ⟨fun hr => start (if_neg fun hc => hr (beq_iff_eq.1 hc)), fun hr => ⟨fun hp => ?_, fun hp => ?_⟩, fun hr => ?_,
    fun hr => ?_, fun hr => ?_, fun hg => hold (if_pos hg), fun hg => hold (if_neg (Bool.eq_false_iff.1 hg)),
    exec_answered (p := ⟨h, 4#8, State.orderRelease⟩) rfl ht rfl, fun hr hp hq => ?_, fun hr => ?_⟩
  · have hp' : u.proceeds = false := hp
    refine start ((State.orderStartLine_of_ready (s := u) hr).trans ?_)
    rw [hp']
    rfl
  · have hp' : u.proceeds = true := hp
    intro spinning
    have hproceed {t : State} (e : u.waiting.proceed = t) :
        exec (.startLine h) s = t.answered h 1#8 .accepted := by
      refine start ((State.orderStartLine_of_ready (s := u) hr).trans ?_)
      rw [hp', if_pos rfl, e]
    refine ⟨fun hn hf => hproceed (if_neg ?_), fun hn => hproceed (if_pos ?_)⟩
    · change ¬ (s.cfg.image.noFeedback || s.mfe.runFbIn) = true
      simp [hn, hf]
    · change (s.cfg.image.noFeedback || s.mfe.runFbIn) = true
      simpa using hn
  · exact stop ((State.orderStopLine_of_starting (s := u) hr).trans
      (congrArg (·, _) (State.stopStarting_eq (s := u) hr)))
  · intro stopping
    have e : u.stopping = stopping := by
      unfold State.stopping
      rw [show u.drainCondition = s.drainCondition from rfl, Ale.zero_eq]
      rfl
    rw [stop (State.orderStopLine_of_turning (s := u) hr), e]
    rfl
  · refine stop (if_neg ?_)
    rw [RunState.takesStop_iff]
    change ¬ (s.rsc.runState = .starting ∨ s.rsc.runState = .running ∨ s.rsc.runState = .holding)
    rcases hr with hr | hr | hr <;> simp [hr]
  · refine clear ((if_pos ?_).trans (congrArg (·, _) (State.clearTripTaken_eq (s := u) hr)))
    rw [Bool.and_eq_true, beq_iff_eq, State.clearable_iff]
    exact ⟨hr, hp, hq⟩
  · exact clear (State.orderClearTrip_of_refused (s := u) hr)

end Sys2Proof.Machine

/-! PROOFS. The orders that set values, and the orders to the move engine (chapters 6 to 10). -/

namespace Sys2Proof.Machine

/-! ### Values -/

theorem clampNat_eq {lo hi : Nat} (h : lo ≤ hi) (x : Nat) : clampNat lo hi x = max lo (min hi x) := by
  unfold clampNat
  split
  · omega
  · split <;> omega

theorem clampResult_eq {p : Prop} [Decidable p] {b : Bool} (h : b = true ↔ ¬ p) :
    clampResult b = if p then .accepted else .clamped := by
  unfold clampResult
  by_cases hp : p
  · rw [if_pos hp, if_neg fun hb => h.1 hb hp]
  · rw [if_neg hp, if_pos (h.2 hp)]

theorem Cwu.select_eq (c : Cwu) (n : Nat) :
    (c.select n).1 = { c with selection := min n (c.ring.length - 1) } ∧
      ((c.select n).2 = true ↔ ¬ n < max 1 c.ring.length) := by
  unfold Cwu.select
  cases hr : c.ring with
  | nil => simp
  | cons r l =>
    simp only [List.isEmpty_cons, List.length_cons, Bool.false_eq_true, if_false]
    split
    · next h => exact ⟨by rw [show min n (l.length + 1 - 1) = n by omega], by simp; omega⟩
    · next h => exact ⟨by rw [show min n (l.length + 1 - 1) = l.length + 1 - 1 by omega], by simp; omega⟩

theorem Image.watchesScale_iff (i : Image) : i.watchesScale = true ↔ i.role ≠ .bin ∧ i.w ≠ 0 := by
  simp [Image.watchesScale]

/-- The kinds that bits of an argument name are removed. -/
theorem EventSet.has_extract (kinds : BitVec 24) (k : EventKind) :
    EventSet.has (kinds.extractLsb' 0 20) k = kinds.getLsbD k.bit := by
  have h := k.bit_lt
  simp [EventSet.has, h]

/-! ### The orders that set values -/

theorem State.orderSetGap_of_crusher {s : State} {n : Nat} (hr : s.cfg.image.role = .crusher)
    (hg : s.cfg.image.gMin ≤ s.cfg.image.gMax) :
    s.orderSetGap n =
      (if s.rsc.runState.isTurning then
          (s.writeGap (max s.cfg.image.gMin (min s.cfg.image.gMax n))).request .orderGap
        else s.writeGap (max s.cfg.image.gMin (min s.cfg.image.gMax n)),
        if max s.cfg.image.gMin (min s.cfg.image.gMax n) = n then .accepted else .clamped) := by
  unfold State.orderSetGap
  rw [if_pos (beq_iff_eq.2 hr)]
  dsimp only
  rw [clampNat_eq hg, clampResult_eq (p := max s.cfg.image.gMin (min s.cfg.image.gMax n) = n) (by simp)]
  rfl

theorem State.restoreScale_eq (s : State) :
    s.restoreScale =
      { s with
        mfe :=
          { s.mfe with
            source := .scale
            watchdog := 0
            q := min 4000 (s.mfe.window.sum * s.cfg.image.w * 3600 / (16 * s.cfg.image.tB))
            estimated := false } } := by
  rw [← satNat_eq_min]
  rfl

/-- Settles O55, order by order. -/
theorem settingOrders : Obligations.SettingOrders := by
  intro s h a kinds ht hgap hring u i gap set scaled
  have setGap {t : State} {r : OrderResult} (e : u.orderSetGap a.toNat = (t, r)) :
      exec (.setGap h a) s = t.answered h 6#8 r :=
    exec_answered (p := ⟨h, 6#8, fun v => v.orderSetGap a.toNat⟩) rfl ht e
  have setCap {t : State} {r : OrderResult} (e : u.orderSetCap a.toNat = (t, r)) :
      exec (.setCap h a) s = t.answered h 7#8 r :=
    exec_answered (p := ⟨h, 7#8, fun v => v.orderSetCap a.toNat⟩) rfl ht e
  have readCal {t : State} {r : OrderResult} (e : u.orderReadCal a.toNat = (t, r)) :
      exec (.readCal h a) s = t.answered h 12#8 r :=
    exec_answered (p := ⟨h, 12#8, fun v => v.orderReadCal a.toNat⟩) rfl ht e
  have liner {t : State} {r : OrderResult} (e : u.orderLinerChanged = (t, r)) :
      exec (.linerChanged h) s = t.answered h 13#8 r :=
    exec_answered (p := ⟨h, 13#8, State.orderLinerChanged⟩) rfl ht e
  have restore {t : State} {r : OrderResult} (e : u.orderRestoreScale = (t, r)) :
      exec (.restoreScale h) s = t.answered h 11#8 r :=
    exec_answered (p := ⟨h, 11#8, State.orderRestoreScale⟩) rfl ht e
  refine ⟨fun hr => ?_, fun hr => ?_, fun hr => ?_, fun hr => ?_, fun hr => ?_, fun hr => ⟨fun ht => ?_, fun ht => ?_⟩,
    fun hr => ?_, fun hr hw => ?_, ?_⟩
  · exact setGap (State.orderSetGap_of_crusher (s := u) hr (Nat.le_of_lt hgap))
  · have hn : ¬ (u.cfg.image.role == .crusher) = true := fun hc => hr (beq_iff_eq.1 hc)
    exact ⟨setGap (if_neg hn), readCal (if_neg hn), liner (if_neg hn)⟩
  · refine setCap ((if_pos (beq_iff_eq.2 hr)).trans ?_)
    rw [satNat_eq_min, clampResult_eq (p := a.toNat ≤ 1000) (by simp)]
    rfl
  · exact setCap (if_neg fun hc => hr (beq_iff_eq.1 hc))
  · obtain ⟨hsel, hclamp⟩ := s.cwu.select_eq a.toNat
    refine readCal ((if_pos (beq_iff_eq.2 hr)).trans ?_)
    have hsel' : (u.cwu.select a.toNat).1 = _ := hsel
    have hres := clampResult_eq hclamp
    dsimp only
    rw [hsel', show clampResult (u.cwu.select a.toNat).2 = _ from hres]
  · exact liner ((if_pos (beq_iff_eq.2 hr)).trans (if_pos ht))
  · exact liner ((if_pos (beq_iff_eq.2 hr)).trans (if_neg (Bool.eq_false_iff.1 ht)))
  · refine restore (if_neg fun hc => ?_)
    obtain ⟨hb, hw⟩ := (Image.watchesScale_iff _).1 hc
    exact hr.elim hb hw
  · refine restore ((if_pos ((Image.watchesScale_iff _).2 ⟨hr, hw⟩)).trans ?_)
    dsimp only
    rw [State.restoreScale_eq]
    rfl
  · refine ⟨_, exec_answered (p := ⟨h, 14#8, fun v => v.orderAckEvents kinds⟩) rfl ht rfl, fun k => ?_, rfl⟩
    exact (EventSet.has_remove _ _ _).trans (by rw [EventSet.has_extract]; rfl)

/-! ### The orders to the move engine -/

theorem State.orderCalibrate_chain (s : State) :
    (s.cfg.image.role == .crusher && s.cfg.image.hasChain .calibrate) = true ↔
      s.cfg.image.role = .crusher ∧ s.cfg.image.headCalibrate.slot ≠ 0 := by
  simp [Image.hasChain, Image.head]

theorem State.request_of_pending {s : State} {r : Requester} (h : s.mve.requests.has r = true) :
    s.request r = s := by
  simp [State.request, h]

theorem State.request_of_new {s : State} {r : Requester} (hg : s.rsc.runState.inGroup = true)
    (h : s.mve.requests.has r = false) : s.request r = ((s.putRequest r).grantPoint r).syncHold := by
  simp [State.request, hg, h]

theorem State.retryTaken_iff (s : State) :
    s.retryTaken = true ↔
      s.rsc.runState.inGroup = true ∧ s.mve.parked.isSome = true ∧ s.mve.active = none := by
  simp [State.retryTaken, and_assoc]

theorem State.orderMoveRetry_of_taken {s : State} {c : Context} (hp : s.mve.parked = some c)
    (h : s.retryTaken = true) : s.orderMoveRetry = (s.retry c, .accepted) := by
  unfold State.orderMoveRetry
  rw [hp]
  exact if_pos h

theorem State.orderMoveRetry_of_refused {s : State} (h : s.retryTaken = false) :
    s.orderMoveRetry = (s, .refusedState) := by
  unfold State.orderMoveRetry
  split
  · rw [if_neg (Bool.eq_false_iff.1 h)]
  · rfl

/-- `t` is loading, from the move engine `m`: its active chain is that of the requester `r`, and requests, tokens
and stack stand as in `m`. -/
structure State.Loads (m : Mve) (r : Requester) (t : State) : Prop where
  active : ∃ d, t.mve.active = some d ∧ d.requester = r
  requests : t.mve.requests = m.requests
  tokenHigh : t.mve.tokenHigh = m.tokenHigh
  tokenLow : t.mve.tokenLow = m.tokenLow

namespace State.Loads

variable {m : Mve} {r : Requester} {s t : State}

theorem of_eq {n : Mve} (h : State.Loads m r t) (hr : m.requests = n.requests)
    (hh : m.tokenHigh = n.tokenHigh) (hl : m.tokenLow = n.tokenLow) : State.Loads n r t :=
  ⟨h.active, h.requests.trans hr, h.tokenHigh.trans hh, h.tokenLow.trans hl⟩

/-- What would be granted does not change in a load. -/
theorem bestRequest (h : State.Loads m r t) : t.mve.bestRequest = m.bestRequest := by
  unfold Mve.bestRequest
  rw [h.requests, h.tokenHigh, h.tokenLow]

theorem setActive (h : State.Loads m r t) {d : Context} (hd : d.requester = r) :
    State.Loads m r (t.setActive d) :=
  ⟨⟨d, rfl, hd⟩, h.requests, h.tokenHigh, h.tokenLow⟩

theorem driveDecision (h : State.Loads m r t) {d : Context} (hd : d.requester = r) (b : Bool) :
    State.Loads m r (t.driveDecision d b).1 := by
  unfold State.driveDecision
  split
  · exact ⟨⟨_, rfl, hd⟩, h.requests, h.tokenHigh, h.tokenLow⟩
  · exact h

theorem settled (h : State.Loads m r t) {d : Context} (hd : d.requester = r) :
    State.Loads m r (t.settled d).1 :=
  State.Loads.driveDecision (t := { t with mve := { t.mve with settleTimer := .stopped } })
    ⟨h.active, h.requests, h.tokenHigh, h.tokenLow⟩ hd true

theorem enterSettle (h : State.Loads m r t) {d : Context} (hd : d.requester = r) :
    State.Loads m r (t.enterSettle d).1 := by
  have hin : State.Loads m r
      { t with
        mve :=
          { t.mve with
            active := some { d with phase := .settle }
            settleTimer := .running 0
            aleActed := false } } :=
    ⟨⟨_, rfl, hd⟩, h.requests, h.tokenHigh, h.tokenLow⟩
  unfold State.enterSettle
  dsimp only
  split
  · exact hin.settled hd
  · exact hin

theorem enterGap (h : State.Loads m r t) {d : Context} (hd : d.requester = r) :
    State.Loads m r (t.enterGap d).1 := by
  unfold State.enterGap
  split
  · exact (h.setActive hd).driveDecision hd true
  · exact h.enterSettle hd

theorem raise (h : State.Loads m r t) (k : EventKind) : State.Loads m r (t.raise k) :=
  ⟨h.active, h.requests, h.tokenHigh, h.tokenLow⟩

/-- A load keeps requests, tokens and the requester of its chain. -/
theorem loadActive (c : Context) : State.Loads s.mve c.requester (s.loadActive c).1 := by
  have hset : ∀ d : Context, d.requester = c.requester →
      State.Loads s.mve c.requester (s.setActive d) := fun d hd => ⟨⟨d, rfl, hd⟩, rfl, rfl, rfl⟩
  unfold State.loadActive
  dsimp only
  split
  · exact hset _ rfl
  · split
    · exact (hset _ rfl).enterGap rfl
    · split
      · split
        · exact ((hset _ rfl).raise _).enterGap rfl
        · exact (hset _ rfl).enterGap rfl
      · exact hset _ rfl
    · exact (hset _ rfl).enterGap rfl
    · exact (hset _ rfl).setActive rfl
    · exact (hset _ rfl).setActive rfl

end State.Loads

theorem State.retry_of_load {s : State} {c : Context}
    (h : (State.loadActive { s with mve := { s.mve with parked := none } } { c with executed := 0 }).2 = none) :
    s.retry c =
      (State.loadActive { s with mve := { s.mve with parked := none } }
        { c with executed := 0 }).1.retryPreempt.syncHold := by
  unfold State.retry
  dsimp only
  rw [h]

theorem State.retry_of_fault {s : State} {c : Context} {f : FaultStatus}
    (h : (State.loadActive { s with mve := { s.mve with parked := none } } { c with executed := 0 }).2 = some f) :
    s.retry c =
      ((State.loadActive { s with mve := { s.mve with parked := none } }
        { c with executed := 0 }).1.fault f).syncHold := by
  unfold State.retry
  dsimp only
  rw [h]

/-- Settles O56, order by order. -/
theorem moveOrders : Obligations.MoveOrders := by
  intro s h ht u chain cleared
  have calibrate {t : State} {r : OrderResult} (e : u.orderCalibrate = (t, r)) :
      exec (.calibrate h) s = t.answered h 8#8 r :=
    exec_answered (p := ⟨h, 8#8, State.orderCalibrate⟩) rfl ht e
  have retry {t : State} {r : OrderResult} (e : u.orderMoveRetry = (t, r)) :
      exec (.moveRetry h) s = t.answered h 9#8 r :=
    exec_answered (p := ⟨h, 9#8, State.orderMoveRetry⟩) rfl ht e
  have discard {t : State} {r : OrderResult} (e : u.orderMoveDiscard = (t, r)) :
      exec (.moveDiscard h) s = t.answered h 10#8 r :=
    exec_answered (p := ⟨h, 10#8, State.orderMoveDiscard⟩) rfl ht e
  have hchain := u.orderCalibrate_chain
  refine ⟨fun hc => calibrate (if_neg fun hb => hc (hchain.1 hb)), fun hc htn => ?_, fun hc htn => ?_, fun hr => ?_,
    fun c hp hg ha => ?_, fun hp => ?_, fun hp => ?_⟩
  · exact calibrate ((if_pos (hchain.2 hc)).trans (if_neg (Bool.eq_false_iff.1 htn)))
  · have hreq : u.orderCalibrate = (u.request .calibrate, .accepted) :=
      (if_pos (hchain.2 hc)).trans (if_pos htn)
    refine ⟨fun hpend => ?_, fun hpend => ?_⟩
    · rw [State.request_of_pending (s := u) (r := .calibrate) hpend] at hreq
      exact calibrate hreq
    · rw [State.request_of_new (s := u) (r := .calibrate) (RunState.inGroup_of_isTurning htn) hpend] at hreq
      exact calibrate hreq
  · refine retry (State.orderMoveRetry_of_refused (Bool.eq_false_iff.2 fun hb => ?_))
    obtain ⟨hg, hp, ha⟩ := u.retryTaken_iff.1 hb
    change s.mve.parked.isSome = true at hp
    change s.mve.active = none at ha
    change s.rsc.runState.inGroup = true at hg
    simp [hg, ha] at hr
    simp [hr] at hp
  · intro l
    have hp' : u.mve.parked = some c := hp
    have htaken : u.retryTaken = true := u.retryTaken_iff.2 ⟨hg, by rw [hp']; rfl, ha⟩
    have hretry := State.orderMoveRetry_of_taken hp' htaken
    have hl : State.Loads u.mve c.requester l.1 :=
      (State.Loads.loadActive (s := cleared) { c with executed := 0 }).of_eq rfl rfl rfl
    obtain ⟨d, hd, hreq⟩ := hl.active
    refine ⟨fun f hf => ?_, fun hf => ⟨fun r hr hlt => ?_, fun hall => ?_⟩⟩
    · have e : u.retry c = (l.1.fault f).syncHold := State.retry_of_fault hf
      exact retry (hretry.trans (by rw [e]))
    · have e : u.retry c = l.1.retryPreempt.syncHold := State.retry_of_load hf
      have hpre : l.1.retryPreempt = l.1.grantPoint r := by
        have hbest : l.1.mve.bestRequest = some r := hl.bestRequest.trans hr
        unfold State.retryPreempt State.grantPoint
        rw [hd, hbest]
      exact retry (hretry.trans (by rw [e, hpre]))
    · have e : u.retry c = l.1.retryPreempt.syncHold := State.retry_of_load hf
      have hpre : l.1.retryPreempt = l.1 := by
        unfold State.retryPreempt
        rw [hd]
        cases hb : l.1.mve.bestRequest with
        | none => rfl
        | some r =>
          have hr : s.mve.bestRequest = some r := hl.bestRequest.symm.trans hb
          rw [hr] at hall
          refine if_neg ?_
          rw [hreq]
          simpa using hall
      exact retry (hretry.trans (by rw [e, hpre]))
  · refine discard (if_neg ?_)
    change ¬ s.mve.parked.isSome = true
    simp [hp]
  · exact discard (if_pos hp)

end Sys2Proof.Machine

/-! PROOFS. The period expiry and its parts (chapters 1 to 5). -/

namespace Sys2Proof.Machine

/-! ### The LBI's counts and the ageing -/

theorem State.lbiCounts_eq (s : State) :
    s.lbiCounts =
      { s with
        lbi :=
          { s.lbi with
            tx := if s.sends = true ∧ s.lbi.tx = .idle then .waitIdle else s.lbi.tx
            attempts := if s.sends = true ∧ s.lbi.tx ≠ .sending then 0 else s.lbi.attempts
            silent := min 8 (s.lbi.silent + 1)
            dupQuiet := min 2 (s.lbi.dupQuiet + 1) } } := by
  unfold State.lbiCounts silentLimit
  simp only [satNat_eq_min]
  cases hs : s.sends
  · simp
  · cases ht : s.lbi.tx <;> simp [Lbi.periodTelegram, ht]

theorem State.tripIfSelected_of_not {s : State} {k : EventKind}
    (h : s.cfg.image.tripMask.has k = false ∨ s.rsc.runState.inGroup = false) : s.tripIfSelected k = s := by
  refine if_neg fun hc => ?_
  obtain ⟨hm, hg⟩ := (Bool.and_eq_true _ _).mp hc
  rcases h with h | h
  · rw [h] at hm; cases hm
  · rw [h] at hg; cases hg

theorem State.tripIfSelected_of_selected {s : State} {k : EventKind} (hm : s.cfg.image.tripMask.has k = true)
    (hg : s.rsc.runState.inGroup = true) : s.tripIfSelected k = s.trip .selected :=
  if_pos (by rw [hm, hg]; rfl)

/-- Settles O36. -/
theorem periodCountsAndAges : Obligations.PeriodCountsAndAges := by
  intro s l
  have hcounts : s.lbiCounts = { s with lbi := l } := s.lbiCounts_eq
  have hraise : s.lbiCounts.raise .busSilent =
      { s with lbi := l, evu := ⟨s.evu.events ||| BitVec.twoPow 20 13⟩ } := by
    rw [hcounts]
    rfl
  have hsilent : s.lbi.silent = 7 →
      s.expiryPart .lbi = (s.lbiCounts.raise .busSilent).tripIfSelected .busSilent :=
    fun h => if_pos (by simp [Lbi.fallsSilent, silentLimit, h])
  refine ⟨fun h => ?_, fun h => ⟨fun hn => ?_, fun hm hg => ?_⟩, ?_, fun h => ?_, fun h => if_pos h⟩
  · rw [← hcounts]
    exact if_neg (by simpa [Lbi.fallsSilent, silentLimit] using h)
  · rw [hsilent h, ← hraise]
    exact State.tripIfSelected_of_not hn
  · rw [hsilent h, ← hraise]
    exact State.tripIfSelected_of_selected hm hg
  · exact (State.afterTable_keeps s { s with peers := agePeers s.peers }).peers
  · exact if_neg (by rw [h]; exact Bool.false_ne_true)

/-! ### The measures -/

theorem State.feeding_iff (s : State) :
    s.feeding = true ↔
      (s.cfg.image.role = .feeder ∧ 0 < s.ale.u) ∨
        (s.cfg.image.role = .crusher ∧ s.cfg.image.pIdle ≤ s.mfe.load) := by
  unfold State.feeding
  cases s.cfg.image.role <;> simp

theorem Mfe.with_source {m : Mfe} {c : Source} (h : m.source = c) : { m with source := c } = m := by
  rw [← h]

theorem State.formQ_of_scale {s : State} (h : s.mfe.source = .scale) :
    s.formQ =
      { s with
        mfe :=
          { s.mfe with
            q := min 4000 (s.mfe.window.sum * s.cfg.image.w * 3600 / (16 * s.cfg.image.tB))
            estimated := false } } := by
  unfold State.formQ
  rw [h, ← satNat_eq_min]
  rfl

theorem State.formQ_of_estimate {s : State} (h : s.mfe.source = .estimate) :
    s.formQ = { s with mfe := { s.mfe with q := s.estimate, estimated := true } } := by
  unfold State.formQ
  rw [h]

/-- The window and the pulse count after step 1. -/
def State.pushed (s : State) : State := { s with mfe := s.mfe.pushWindow }

theorem State.watchdogNext_of_scale {s : State} (h : s.mfe.source = .scale) :
    s.watchdogNext = if s.rsc.runState = .running ∧ s.feeding = true then s.mfe.watchdog + 1 else s.mfe.watchdog := by
  unfold State.watchdogNext
  rw [h]
  simp

theorem State.mfePeriod_eq (s : State) :
    s.mfePeriod =
      if 16 ≤ s.pushed.watchdogNext then
        (State.formQ
          (State.raise { s.pushed with mfe := { s.pushed.mfe with watchdog := 0, source := .estimate } }
            .scaleLost)).tripIfSelected .scaleLost
      else State.formQ { s.pushed with mfe := { s.pushed.mfe with watchdog := s.pushed.watchdogNext } } := by
  unfold State.mfePeriod
  change (if s.pushed.scaleLoses then s.pushed.stepWatchdog.formQ.tripIfSelected .scaleLost
    else s.pushed.stepWatchdog.formQ) = _
  unfold State.stepWatchdog
  by_cases h : 16 ≤ s.pushed.watchdogNext
  · have hl : s.pushed.scaleLoses = true := decide_eq_true h
    rw [hl, if_pos h]
    rfl
  · have hl : s.pushed.scaleLoses = false := decide_eq_false h
    rw [hl, if_neg h]
    rfl

/-- Settles O37, by the source and the watchdog count. -/
theorem periodMeasures : Obligations.PeriodMeasures := by
  intro s window scaleQ feeding count lost
  have hperiod : s.expiryPart .measure = s.mfePeriod := rfl
  have hcount : s.mfe.source = .scale → s.pushed.watchdogNext = count := by
    intro h
    rw [State.watchdogNext_of_scale (s := s.pushed) h]
    have hf : s.pushed.feeding = true ↔ feeding := s.pushed.feeding_iff
    simp only [hf]
    rfl
  have hlost : State.formQ
      (State.raise { s.pushed with mfe := { s.pushed.mfe with watchdog := 0, source := .estimate } }
        .scaleLost) = { s with mfe := lost, evu := ⟨s.evu.events ||| BitVec.twoPow 20 3⟩ } := rfl
  refine ⟨fun h => ?_, fun h hlt => ?_, fun h hle => ⟨fun hn => ?_, fun hm hg => ?_⟩, fun hr => ?_,
    fun hr => ?_, fun hr => ?_⟩
  · have hnext : s.pushed.watchdogNext = 0 := by
      unfold State.watchdogNext
      rw [show s.pushed.mfe.source = .estimate from h]
    rw [hperiod, State.mfePeriod_eq, hnext, if_neg (by omega)]
    refine (State.formQ_of_estimate (by exact h)).trans ?_
    exact congrArg (fun m => { s with mfe := m })
      (Mfe.with_source (m := { lost with source := s.mfe.source }) h).symm
  · rw [hperiod, State.mfePeriod_eq, hcount h, if_neg (by omega)]
    exact State.formQ_of_scale (by exact h)
  · rw [hperiod, State.mfePeriod_eq, hcount h, if_pos hle, hlost]
    exact State.tripIfSelected_of_not hn
  · rw [hperiod, State.mfePeriod_eq, hcount h, if_pos hle, hlost]
    exact State.tripIfSelected_of_selected hm hg
  · unfold State.estimate
    rw [hr]
  · unfold State.estimate
    rw [hr]
    exact satNat_eq_min _ _
  · unfold State.estimate
    rw [hr]
    exact satNat_eq_min _ _

/-! ### The whole expiry -/

/-- Every part but the ageing keeps the peer table with the rest. -/
theorem State.expiryPart_keeps (s : State) {part : ExpiryPart} (h : part ≠ .ageing) :
    s.Keeps (s.expiryPart part) := by
  cases part with
  | lbi =>
    change s.Keeps s.lbiPeriod
    unfold State.lbiPeriod
    split
    · exact ((State.Keeps.refl s).of : s.Keeps s.lbiCounts).trans
        ((State.raise_keeps _ _).trans (State.Keeps.along.tripIfSelected _ _))
    · exact ((State.Keeps.refl s).of : s.Keeps s.lbiCounts)
  | ageing => exact absurd rfl h
  | measure =>
    change s.Keeps s.mfePeriod
    have hform : ∀ t : State, t.Keeps t.formQ := fun t => by
      unfold State.formQ
      split <;> exact (State.Keeps.refl t).of
    have hpushed : s.Keeps s.pushed := (State.Keeps.refl s).of
    rw [State.mfePeriod_eq]
    split
    · exact ((hpushed.of : s.Keeps _).trans ((State.raise_keeps _ _).trans (hform _))).trans
        (State.Keeps.along.tripIfSelected _ _)
    · exact (hpushed.of : s.Keeps _).trans (hform _)
  | allowance => exact (State.Keeps.refl s).of
  | runState => exact s.evaluateLine_keeps

/-- The parts age the peer table as often as the ageing stands among them, and keep the rest. -/
theorem State.foldl_expiryPart_keeps (order : List ExpiryPart) (s : State) :
    State.Keeps { s with peers := agePeers^[order.count .ageing] s.peers }
      (order.foldl State.expiryPart s) := by
  induction order generalizing s with
  | nil => exact .refl s
  | cons part order ih =>
    have hrest := ih (s.expiryPart part)
    by_cases h : part = .ageing
    · subst h
      obtain ⟨hpeers, hecho, hcfg, hpins, hdraws, hpending⟩ :=
        State.afterTable_keeps s { s with peers := agePeers s.peers }
      rw [List.count_cons_self, Function.iterate_succ_apply]
      exact ⟨hrest.peers.trans (congrArg (agePeers^[order.count .ageing]) hpeers), hrest.echo.trans hecho, hrest.cfg.trans hcfg,
        hrest.pins.trans hpins, hrest.draws.trans hdraws, hrest.pending.trans hpending⟩
    · obtain ⟨hpeers, hecho, hcfg, hpins, hdraws, hpending⟩ := s.expiryPart_keeps h
      rw [List.count_cons_of_ne h]
      exact ⟨hrest.peers.trans (congrArg (agePeers^[order.count .ageing]) hpeers), hrest.echo.trans hecho, hrest.cfg.trans hcfg,
        hrest.pins.trans hpins, hrest.draws.trans hdraws, hrest.pending.trans hpending⟩

/-- Settles O35: the free order is an arrangement of the parts. -/
theorem periodExpiryTakesEveryPart : Obligations.PeriodExpiryTakesEveryPart := by
  refine fun s => ⟨rfl, fun hh => ?_⟩
  have hexec : exec .periodExpiry s = .next s.periodExpiry.drive := s.event_of_free _ hh
  rw [hexec]
  unfold State.periodExpiry
  refine ⟨fun h => by rw [h]; rfl, fun h => ?_⟩
  have hrun : s.lbi.periodTimer.isRunning = true := by
    cases ht : s.lbi.periodTimer with
    | stopped => exact absurd ht h
    | running e => rfl
  rw [if_pos hrun]
  have hperm : (arrange (Config.expiryOrder s.draws) expiryParts).Perm expiryParts := arrange_perm _ _
  refine ⟨_, hperm, _, rfl, rfl, ?_⟩
  have hk := State.foldl_expiryPart_keeps (arrange (Config.expiryOrder s.draws) expiryParts)
    { s with lbi := { s.lbi with periodTimer := .running 0 }, draws := s.draws + 1 }
  rw [hperm.count_eq] at hk
  have ht := hk.trans (State.Keeps.along.reduceTest _)
  exact ⟨ht.peers, ht.echo, ht.cfg, ht.pending⟩

/-! ### The allowance engine -/

theorem Context.feed_eq (c : Context) : c.feed = if c.record.kind = .touch then .stop else c.record.feed := by
  unfold Context.feed
  cases c.record.kind <;> rfl

theorem State.compute_of_stop {s : State} (h : s.mve.feed = .stop) : s.compute = s.ale.zero := by
  unfold State.compute
  rw [h]

theorem State.compute_of_feed {s : State} (h : s.mve.feed ≠ .stop) :
    s.compute =
      match s.cfg.image.role with
      | .crusher => s.computeCrusher
      | .feeder => s.computeFeeder
      | .bin => s.computeBin := by
  unfold State.compute
  cases hf : s.mve.feed with
  | stop => exact absurd hf h
  | none | reduce => rfl

/-- Settles O38. -/
theorem allowanceActsByRunState : Obligations.AllowanceActsByRunState := by
  intro s
  have hale : (s.expiryPart .allowance).ale = s.aleResult := rfl
  rw [hale]
  refine ⟨fun h => ?_, fun c h => ?_, rfl, fun h => ?_, fun hh hr => ?_, fun hr hf => ?_⟩
  · unfold Mve.feed
    rw [h]
  · unfold Mve.feed
    rw [h]
    exact c.feed_eq
  · unfold State.aleResult
    rcases h with h | ⟨h, hf⟩ <;> rw [h]
    · rfl
    · exact State.compute_of_stop hf
  · unfold State.aleResult
    cases h : s.rsc.runState <;> first | rfl | contradiction
  · have e : s.aleResult = s.compute := by
      unfold State.aleResult
      rw [hr]
    rw [e, State.compute_of_feed hf]
    exact ⟨fun h => by rw [h], fun h => by rw [h], fun h => by rw [h]⟩

/-! ### Feeder -/

theorem Mve.rateCap_of_active {m : Mve} {c : Context} (h : m.active = some c) :
    m.rateCap = if c.record.kind = .rateFor then some c.record.argument.toNat else none := by
  unfold Mve.rateCap
  rw [h]
  dsimp only
  split <;> simp_all

/-- The candidates of a feeder: their least value is the least of the own figure and the downstream allowance. -/
theorem find?_feeder_candidates (feed : Feed) {rRed cap own : Nat} {low : Bool} (h : rRed ≤ 1000)
    (hown : reduced feed rRed (if low then 0 else cap) = own) (dnTerm : LimitTerm) (dn : Nat) :
    ([(LimitTerm.cap, cap)] ++ (if low then [(LimitTerm.supply, 0)] else []) ++ moveCandidate feed own ++
        [(dnTerm, dn)]).find? (fun p => p.2 == min own dn) =
      some
        (limiting .cap cap
          ((if low then [(.supply, 0)] else []) ++ moveCandidate feed own ++ [(dnTerm, dn)]),
        min own dn) := by
  have hle : own ≤ if low then 0 else cap := hown ▸ reduced_le feed h _
  have hcases :
      moveCandidate feed own = [(.move, own)] ∨
        own = (if low then 0 else cap) ∧ moveCandidate feed own = [] := by
    cases feed with
    | reduce => exact .inl rfl
    | none | stop => exact .inr ⟨hown.symm, rfl⟩
  simp only [List.append_assoc, List.singleton_append]
  apply find?_eq_limiting
  · cases low <;> rcases hcases with hmove | ⟨-, hmove⟩ <;> simp [hmove] at hle ⊢ <;> omega
  · rcases hcases with hmove | ⟨heq, hmove⟩
    · cases low <;> simp [hmove] at hle ⊢ <;> omega
    · cases low <;> simp [hmove] at heq ⊢ <;> omega

theorem State.supplyLow_iff (s : State) :
    s.supplyLow = true ↔
      ((s.supplyBin.bind PeerEntry.level).any fun l => decide (l ≤ s.cfg.image.lLow)) = true := by
  unfold State.supplyLow
  cases s.supplyBin with
  | none => simp
  | some e => cases h : e.level <;> simp [h]

/-- Settles O40: the model's terms are those of R71 to R73, and the term it names is the first candidate that
equals the allowance. -/
theorem feederAllowance : Obligations.FeederAllowance := by
  refine fun s => ⟨fun h => ?_, fun c h => Mve.rateCap_of_active h, ?_⟩
  · unfold Mve.rateCap
    rw [h]
  · intro _ hred i cap low own aDn f
    have hOwn : reduced s.mve.feed i.rRed (if low then 0 else cap) = own := by
      rw [reduced_eq]
      change (if _ then (if low then 0 else cap) * i.rRed / 1000 else _) =
        if low then 0 else if s.mve.feed = Feed.reduce then cap * i.rRed / 1000 else cap
      cases low <;> simp
    have hDn : s.downstreamAllowance = aDn := s.downstreamAllowance_eq
    have hf : f = feedCommand i s.mve.rateCap s.ale.u (min own aDn) s.ale.residue := rfl
    have hcompute : s.computeFeeder =
        { s.ale with
          a := min own aDn
          term :=
            limiting .cap cap
              ((if low then [(.supply, 0)] else []) ++ moveCandidate s.mve.feed own ++
                [(s.downstreamTerm, aDn)])
          u := f.u
          residue := f.residue
          supply := low } := by
      rw [hf, ← hOwn, ← hDn]
      rfl
    have hfind := find?_feeder_candidates s.mve.feed hred hOwn s.downstreamTerm aDn
    have hterm : s.computeFeeder.term = _ := congrArg Ale.term hcompute
    refine ⟨s.supplyLow_iff, ?_, ?_⟩
    · rw [hterm]
      exact hcompute
    · rw [hterm, ← moveCandidate_eq]
      exact hfind

end Sys2Proof.Machine

/-! PROOFS. Loads and phases of the move engine (chapters 6 and 7). -/

namespace Sys2Proof.Machine

/-! ### The load check and the working copies -/

theorem loadCheck_iff (role : Role) (r : MoveRecord) :
    loadCheck role r = true ↔
      (r.kind = .gapTo ∨ r.kind = .gapBy ∨ r.kind = .touch → role = .crusher) ∧
        (r.kind = .rateFor → role = .feeder) ∧ (r.stop = true ∨ r.next ≠ 0) := by
  unfold loadCheck
  cases hk : r.kind <;> simp

theorem Mve.record_of_getElem? {m : Mve} {n : Nat} {r : MoveRecord} (h : m.table[n]? = some r) :
    m.record n = r := by
  simp [Mve.record, h]

/-- The working target of a GAP_TO. -/
theorem workGapTo_eq {i : Image} (h : i.gMin ≤ i.gMax) (gSet : Nat) (valid : Bool) (gap : Nat) (r : MoveRecord) :
    workGapTo i gSet valid gap r =
      .gap (max i.gMin (min i.gMax (if r.targetSource = .absolute then r.argument.toNat else gSet)))
        (if valid = true ∧
            max i.gMin (min i.gMax (if r.targetSource = .absolute then r.argument.toNat else gSet)) < gap then
          .closing
        else .opening) := by
  unfold workGapTo
  cases r.targetSource <;> simp [clampNat_eq h]

/-- The working target of a GAP_BY is the clamped sum, clipped where the clamp moves it. -/
theorem workGapBy_eq {i : Image} (h : i.gMin ≤ i.gMax) (gap : Nat) (mirror : Bool) (argument : Int) :
    let sum := (gap : Int) + (if mirror then -argument else argument)
    (workGapBy i gap mirror argument).1 = (max (i.gMin : Int) (min (i.gMax : Int) sum)).toNat ∧
      ((workGapBy i gap mirror argument).2 = true ↔ sum < (i.gMin : Int) ∨ (i.gMax : Int) < sum) := by
  intro sum
  have hsum : (gap : Int) + signedStep mirror argument = sum := rfl
  unfold workGapBy
  dsimp only
  rw [hsum]
  split
  · exact ⟨by omega, by simp; omega⟩
  · split
    · exact ⟨by omega, by simp; omega⟩
    · exact ⟨by omega, by simp; omega⟩

/-- The context whose record a load has taken, before its working copy stands. -/
def Context.loading (c : Context) (r : MoveRecord) : Context :=
  { c with record := r, work := .none, phase := .load, redrives := 0, status := .new }

/-- A load that fails its check. -/
theorem State.loadActive_of_unsuited {s : State} {c : Context}
    (h : loadCheck s.cfg.image.role (s.mve.record c.slot) = false) :
    s.loadActive c = (s.setActive (c.loading (s.mve.record c.slot)), some .invalid) :=
  if_pos (by rw [h]; rfl)

/-- A load that passes its check goes on by the kind of its record. -/
theorem State.loadActive_of_suited {s : State} {c : Context}
    (h : loadCheck s.cfg.image.role (s.mve.record c.slot) = true) :
    let r := s.mve.record c.slot
    let c1 := c.loading r
    s.loadActive c =
      match r.kind with
      | .gapTo =>
        (s.setActive c1).enterGap
          { c1 with work := workGapTo s.cfg.image s.mve.gSet s.mfe.gapValid s.mfe.gap r }
      | .gapBy =>
        if s.mfe.gapValid then
          (if (workGapBy s.cfg.image s.mfe.gap c.mirror r.argument).2 then (s.setActive c1).raise .limit
            else s.setActive c1).enterGap
            { c1 with
              work :=
                .gap (workGapBy s.cfg.image s.mfe.gap c.mirror r.argument).1 (senseGapBy r.argument) }
        else (s.setActive c1, some .sensor)
      | .touch => (s.setActive c1).enterGap { c1 with work := .touch }
      | .dwell =>
        ((s.setActive c1).setActive
          { c1 with work := .timed (secondsTime r.argument.toNat), phase := .running }, none)
      | .rateFor =>
        ((s.setActive c1).setActive { c1 with work := .timed (secondsTime r.timeout), phase := .running },
          none) := by
  refine (if_neg (by rw [h]; exact Bool.false_ne_true)).trans ?_
  rfl

/-- Settles O43, by the check and the kind of the record. -/
theorem recordLoads : Obligations.RecordLoads := by
  intro s c
  refine ⟨fun n r h => Mve.record_of_getElem? h, rfl, fun k => rfl, fun hg => ?_⟩
  intro i r c1 suited wanted target sum clipped
  have hcheck : loadCheck s.cfg.image.role (s.mve.record c.slot) = true ↔ suited := loadCheck_iff _ _
  refine ⟨fun h => ?_, fun h => ?_⟩
  · exact State.loadActive_of_unsuited (Bool.eq_false_iff.2 fun hc => h (hcheck.1 hc))
  · have hload := State.loadActive_of_suited (hcheck.2 h)
    have hle : i.gMin ≤ i.gMax := Nat.le_of_lt hg
    refine ⟨fun hk => ?_, fun hk => ?_, fun hk => ?_, fun hk hv => ?_, fun hk hv => ?_, fun hk => ?_⟩
    · rw [hload, show (s.mve.record c.slot).kind = _ from hk]
      rfl
    · rw [hload, show (s.mve.record c.slot).kind = _ from hk]
      rfl
    · rw [hload, show (s.mve.record c.slot).kind = _ from hk]
      dsimp only
      rw [workGapTo_eq hle]
      rfl
    · rw [hload, show (s.mve.record c.slot).kind = _ from hk]
      dsimp only
      rw [hv]
      rfl
    · obtain ⟨htarget, hclip⟩ := workGapBy_eq hle s.mfe.gap c.mirror r.argument
      rw [hload, show (s.mve.record c.slot).kind = _ from hk]
      dsimp only
      rw [if_pos hv, htarget]
      have hraise : (if (workGapBy s.cfg.image s.mfe.gap c.mirror (s.mve.record c.slot).argument).2 = true then
          (s.setActive c1).raise .limit else s.setActive c1) =
          if clipped then (s.setActive c1).raise .limit else s.setActive c1 := by
        exact if_congr hclip rfl rfl
      exact congrArg (fun t => State.enterGap t _) hraise
    · rw [hload, show (s.mve.record c.slot).kind = _ from hk]
      rfl

/-! ### Phases -/

/-- The settle test for feed condition STOP. -/
theorem State.stopSettled_iff (s : State) :
    s.stopSettled = true ↔
      (∀ e ∈ s.upstream,
        e.runState = .ready ∨ e.runState = .offline ∨ e.runState = .tripped ∨ e.runState = .stopping ∨
          e.throughput = 0) ∧
        s.mfe.load ≤ s.cfg.image.pIdle := by
  have hstopped : ∀ r : RunState, r.isStopped = true ↔
      r = .ready ∨ r = .offline ∨ r = .tripped ∨ r = .stopping := by
    intro r
    cases r <;> simp [RunState.isStopped]
  simp [State.stopSettled, hstopped, or_assoc]

theorem State.reduceSettled_iff (s : State) :
    s.reduceSettled = true ↔ s.mve.aleActed = true ∧ s.mfe.q ≤ s.ale.a := by
  simp [State.reduceSettled]

/-- SETTLE, before its test. -/
def State.settling (s : State) (c : Context) : State :=
  { s with
    mve :=
      { s.mve with
        active := some { c with phase := .settle }
        settleTimer := .running 0
        aleActed := false } }

theorem State.enterSettle_waits {s : State} {c : Context} (h : ¬ (c.feed = .stop ∧ s.stopSettled = true)) :
    s.enterSettle c = (s.settling c, none) :=
  if_neg fun hc =>
    have ⟨hf, hs⟩ := (Bool.and_eq_true _ _).mp hc
    h ⟨beq_iff_eq.1 hf, hs⟩

theorem State.enterSettle_passes {s : State} {c : Context} (h : c.feed = .stop) (hs : s.stopSettled = true) :
    s.enterSettle c = (s.settling c).settled { c with phase := .settle } :=
  if_pos ((Bool.and_eq_true _ _).mpr ⟨beq_iff_eq.2 h, hs⟩)

theorem State.enterGap_of_none {s : State} {c : Context} (h : c.feed = .none) :
    s.enterGap c = (s.setActive c).driveDecision c true :=
  if_pos (beq_iff_eq.2 h)

theorem State.enterGap_of_settle {s : State} {c : Context} (h : c.feed ≠ .none) :
    s.enterGap c = s.enterSettle c :=
  if_neg fun hc => h (beq_iff_eq.1 hc)

/-- The drive decision with a valid gap. -/
theorem State.driveDecision_of_valid {s : State} (c : Context) (restart : Bool) (h : s.mfe.gapValid = true) :
    s.driveDecision c restart =
      ({ s with
          cwu :=
            if c.record.kind = .touch then
              { s.cwu with loadCount := 0, stillCount := 0, reference := none }
            else s.cwu
          mve :=
            { s.mve with
              active :=
                some
                  { c with
                    phase :=
                      match c.work with
                      | .gap target _ => decidePhase s.cfg.image.db s.mfe.gap target
                      | .touch | .timed _ | .none => .drive .lower }
              recordTimer := if restart then .running 0 else s.mve.recordTimer } },
        none) := by
  refine (if_pos h).trans ?_
  simp only [beq_iff_eq]
  rfl

theorem State.driveDecision_of_invalid {s : State} (c : Context) (restart : Bool) (h : s.mfe.gapValid = false) :
    s.driveDecision c restart = (s, some .sensor) :=
  if_neg (Bool.eq_false_iff.1 h)

theorem decidePhase_raise {db gap target : Nat} (h : gap + db < target) :
    decidePhase db gap target = .drive .raise := if_pos h

theorem decidePhase_lower {db gap target : Nat} (h : target + db < gap) :
    decidePhase db gap target = .drive .lower :=
  (if_neg (by omega)).trans (if_pos h)

theorem decidePhase_inside {db gap target : Nat} (hlow : target ≤ gap + db) (hhigh : gap ≤ target + db) :
    decidePhase db gap target = .verify 0 :=
  (if_neg (by omega)).trans (if_neg (by omega))

theorem State.reduceTest_of_active {s : State} {c : Context} (h : s.mve.active = some c) :
    s.reduceTest =
      if c.phase = .settle ∧ c.feed = .reduce ∧ s.mve.aleActed = true ∧ s.mfe.q ≤ s.ale.a then
        ((s.settled c).finish).syncHold
      else s := by
  unfold State.reduceTest
  rw [h]
  simp only [Bool.and_eq_true, beq_iff_eq, State.reduceSettled_iff, and_assoc]

theorem State.stopTest_of_active {s : State} {c : Context} (h : s.mve.active = some c) :
    s.stopTest =
      if c.phase = .settle ∧ c.feed = .stop ∧ s.stopSettled = true then
        ((s.settled c).finish).syncHold
      else s := by
  unfold State.stopTest
  rw [h]
  simp only [Bool.and_eq_true, beq_iff_eq, and_assoc]

theorem State.reduceTest_of_none {s : State} (h : s.mve.active = none) : s.reduceTest = s := by
  unfold State.reduceTest
  rw [h]

theorem State.stopTest_of_none {s : State} (h : s.mve.active = none) : s.stopTest = s := by
  unfold State.stopTest
  rw [h]

/-- Settles O44, phase by phase. -/
theorem phasesEntered : Obligations.PhasesEntered := by
  intro s c restart waiting settled decided
  have hsettled : s.stopSettled = true ↔ settled := s.stopSettled_iff
  have hnone : c.feed ≠ .stop ∨ ¬ settled → s.enterSettle c = (waiting, none) := by
    intro h
    refine State.enterSettle_waits fun hc => ?_
    rcases h with h | h
    · exact h hc.1
    · exact h (hsettled.1 hc.2)
  have hpass : c.feed = .stop → settled → s.enterSettle c = waiting.settled { c with phase := .settle } :=
    fun hf hs => State.enterSettle_passes hf (hsettled.2 hs)
  have hdecide : s.mfe.gapValid = true → ∀ p,
      (match c.work with
        | .gap target _ => decidePhase s.cfg.image.db s.mfe.gap target
        | .touch | .timed _ | .none => .drive .lower) = p →
      s.driveDecision c restart = decided p := by
    intro hv p hp
    subst hp
    exact State.driveDecision_of_valid c restart hv
  refine ⟨State.enterGap_of_none, fun hf => ?_, fun hf => ⟨fun hs => ?_, fun hs => ?_⟩,
    State.driveDecision_of_invalid c restart, fun hv => ⟨fun target sense hw => ?_, fun hw => ?_⟩, fun ha => ?_,
    fun ha => ⟨State.reduceTest_of_none ha, State.stopTest_of_none ha⟩, c.feed_eq, hnone, hpass,
    fun t => rfl, fun t f => rfl⟩
  · rw [State.enterGap_of_settle (by simp [hf])]
    exact hnone (.inl (by simp [hf]))
  · rw [State.enterGap_of_settle (by simp [hf])]
    exact hnone (.inr hs)
  · rw [State.enterGap_of_settle (by simp [hf])]
    exact hpass hf hs
  · refine ⟨fun h => hdecide hv _ ?_, fun h => hdecide hv _ ?_, fun hl hh => hdecide hv _ ?_⟩ <;> rw [hw]
    · exact decidePhase_raise h
    · exact decidePhase_lower h
    · exact decidePhase_inside hl hh
  · exact hdecide hv _ (by rw [hw])
  · intro left
    rw [State.reduceTest_of_active ha, State.stopTest_of_active ha]
    refine ⟨fun hp hf hacted hq => if_pos ⟨hp, hf, hacted, hq⟩, fun h => if_neg ?_,
      fun hp hf hs => if_pos ⟨hp, hf, hsettled.2 hs⟩, fun h => if_neg ?_⟩
    · rintro ⟨hp, hf, hacted, hq⟩
      rcases h with h | h | h | h
      · exact h hp
      · exact h hf
      · rw [h] at hacted; cases hacted
      · omega
    · rintro ⟨hp, hf, hs⟩
      rcases h with h | h | h
      · exact h hp
      · exact h hf
      · exact h (hsettled.1 hs)

end Sys2Proof.Machine

/-! PROOFS. The arbiter, faults and completions of the move engine (chapters 6 and 7). -/

namespace Sys2Proof.Machine

/-! ### The arbiter -/

theorem RequestSet.eq_empty_iff (r : RequestSet) :
    r = RequestSet.empty ↔ ∀ q : Requester, r.has q = false := by
  constructor
  · rintro rfl q
    cases q <;> rfl
  · intro h
    obtain ⟨tramp, overload, orderGap, calibrate, start, schedule⟩ := r
    have h1 : tramp = false := h .tramp
    have h2 : overload = false := h .overload
    have h3 : orderGap = false := h .orderGap
    have h4 : calibrate = false := h .calibrate
    have h5 : start = false := h .start
    have h6 : schedule = false := h .schedule
    rw [h1, h2, h3, h4, h5, h6]
    rfl

/-- The request that would be granted is pending, of the highest priority among them, and the one that the token
of its level prefers. -/
theorem Mve.bestRequest_spec {m : Mve} {r : Requester} (h : m.bestRequest = some r) :
    m.requests.has r = true ∧
      (∀ q : Requester, m.requests.has q = true → q.priority ≤ r.priority) ∧
      (m.requests.orderGap = true → m.requests.calibrate = true → r.priority = 1 →
        (r = .orderGap ↔ m.tokenHigh = .orderGap)) ∧
      (m.requests.start = true → m.requests.schedule = true → r.priority = 0 →
        (r = .start ↔ m.tokenLow = .start)) := by
  unfold Mve.bestRequest at h
  dsimp only at h
  repeat' split at h
  all_goals cases h
  all_goals
    refine ⟨by simp_all [RequestSet.has], fun q hq => ?_, by simp_all [Requester.priority],
      by simp_all [Requester.priority]⟩
    cases q <;> simp_all [RequestSet.has, Requester.priority]

theorem Mve.bestRequest_eq_none_iff (m : Mve) : m.bestRequest = none ↔ m.requests = RequestSet.empty := by
  rw [RequestSet.eq_empty_iff]
  constructor
  · intro h q
    unfold Mve.bestRequest at h
    dsimp only at h
    repeat' split at h
    all_goals cases h
    cases q <;> simp_all [RequestSet.has]
  · intro h
    cases hb : m.bestRequest with
    | none => rfl
    | some r => exact absurd (Mve.bestRequest_spec hb).1 (by simp [h r])

/-- A grant takes the request out of the pending set and flips the token of its level. -/
theorem State.grant_eq (s : State) (r : Requester) :
    s.grant r =
      State.loadActive
        { s with
          mve :=
            { s.mve with
              requests := s.mve.requests.put false r
              tokenHigh :=
                if r = .orderGap then .calibrate
                else if r = .calibrate then .orderGap
                else s.mve.tokenHigh
              tokenLow :=
                if r = .start then .schedule
                else if r = .schedule then .start
                else s.mve.tokenLow } }
        (newContext r (s.cfg.image.head r)) := by
  cases r <;> rfl

theorem State.select_of_busy {s : State} (h : s.rsc.runState.inGroup = false ∨ s.mve.active.isSome = true) :
    s.select = s := by
  refine if_neg fun hc => ?_
  obtain ⟨hg, ha⟩ := (Bool.and_eq_true _ _).mp hc
  rcases h with h | h
  · rw [h] at hg; cases hg
  · rw [Option.isNone_iff_eq_none] at ha
    rw [ha] at h
    cases h

theorem State.select_of_free {s : State} (hg : s.rsc.runState.inGroup = true) (ha : s.mve.active = none) :
    s.select = if s.mve.parked.isSome then s.selectTramp else s.selectFree :=
  if_pos (by rw [hg, ha]; rfl)

/-- What a selection does with a fault parked. -/
theorem State.selectTramp_eq {s : State} (hg : s.rsc.runState.inGroup = true) (ha : s.mve.active = none) :
    s.selectTramp =
      if s.mve.requests.tramp = true then
        if (s.grant .tramp).2 = none then (s.grant .tramp).1 else (s.grant .tramp).1.faultHigh
      else s := by
  unfold State.selectTramp
  rw [hg, ha]
  by_cases ht : s.mve.requests.tramp = true
  · rw [if_pos ht, if_pos (by rw [ht]; rfl)]
    obtain ⟨t, _ | f⟩ := s.grant .tramp <;> rfl
  · rw [if_neg ht, if_neg (by simp [ht])]

/-- What a selection does with no fault parked. -/
theorem State.selectFree_grant {s : State} {r : Requester} (hr : s.mve.bestRequest = some r)
    (hs : (s.mve.stack.getLast?.all fun c => decide (c.requester.priority < r.priority)) = true) :
    s.selectFree = (s.grant r).finish := by
  unfold State.selectFree
  cases ht : s.mve.stack.getLast? with
  | none => rw [hr]
  | some c =>
    rw [hr]
    rw [ht] at hs
    exact if_pos (by simpa using hs)

theorem State.selectFree_resume {s : State} {c : Context} (ht : s.mve.stack.getLast? = some c)
    (hs : (s.mve.bestRequest.all fun r => decide (r.priority ≤ c.requester.priority)) = true) :
    s.selectFree = (s.resumeTop c).finish := by
  unfold State.selectFree
  rw [ht]
  cases hr : s.mve.bestRequest with
  | none => rfl
  | some r =>
    rw [hr] at hs
    exact if_neg (by simpa using hs)

theorem State.selectFree_none {s : State} (hr : s.mve.bestRequest = none) (hs : s.mve.stack = []) :
    s.selectFree = s := by
  unfold State.selectFree
  rw [hr, hs]
  rfl

theorem State.grantPoint_of_none {s : State} (r : Requester) (h : s.mve.active = none) :
    s.grantPoint r = s.select := by
  unfold State.grantPoint
  rw [h]

theorem State.grantPoint_of_active {s : State} {c : Context} (r : Requester) (h : s.mve.active = some c) :
    s.grantPoint r = if c.requester.priority < r.priority then s.preempt c r else s := by
  unfold State.grantPoint
  rw [h]

/-- Settles O45. -/
theorem arbiterSelects : Obligations.ArbiterSelects := by
  refine fun s => ⟨State.select_of_busy, fun hg ha => ⟨fun hp => ⟨fun ht => ?_, fun ht => ⟨fun hl => ?_, fun hl => ?_⟩⟩,
    fun hp => ?_⟩, s.mve.bestRequest_eq_none_iff, fun r hr => Mve.bestRequest_spec hr,
    fun r => ⟨s.grant_eq r, State.grantPoint_of_none r, fun c hc => ?_⟩, rfl, rfl, fun q => rfl, fun q b r p => ?_,
    fun r h => ⟨rfl, rfl, rfl, rfl⟩⟩
  · rw [State.select_of_free hg ha, if_pos hp, State.selectTramp_eq hg ha, if_neg (by simp [ht])]
  · rw [State.select_of_free hg ha, if_pos hp, State.selectTramp_eq hg ha, if_pos ht, if_pos hl]
  · rw [State.select_of_free hg ha, if_pos hp, State.selectTramp_eq hg ha, if_pos ht, if_neg hl]
  · rw [State.select_of_free hg ha, if_neg (by simp [hp])]
    exact ⟨fun r hr hs => State.selectFree_grant hr hs, fun c ht hs => State.selectFree_resume ht hs,
      State.selectFree_none⟩
  · rw [State.grantPoint_of_active r hc]
    exact ⟨fun hle => if_neg (Nat.not_lt.2 hle), fun hlt => if_pos hlt⟩
  · rw [RequestSet.has_put]
    exact if_congr eq_comm rfl rfl

/-! ### Suspended contexts -/

/-- Settles O46. -/
theorem contextResumes : Obligations.ContextResumes := by
  intro s c c1
  refine ⟨⟨rfl, rfl, rfl, rfl, rfl, rfl, rfl, rfl, fun n h => ?_, fun h => ?_⟩,
    fun hk => ⟨fun hp => ?_, fun hp => ?_⟩, fun hk => ?_, fun hk => ?_⟩
  · unfold Context.suspend
    simp [h]
  · unfold Context.suspend
    cases hp : c.phase <;> simp_all
  · unfold State.resume
    rcases hk with hk | hk <;> rcases hp with hp | hp | hp <;> simp only [hk, hp, c1]
  · unfold State.resume
    rcases hk with hk | hk <;> simp only [hk, hp, c1]
  · unfold State.resume
    rw [hk]
  · unfold State.resume
    rcases hk with hk | hk <;> rw [hk]

/-! ### Faults -/

theorem Requester.priority_eq_three_iff (r : Requester) : r.priority = 3 ↔ r = .tramp := by
  cases r <;> simp [Requester.priority]

theorem State.fault_of_none {s : State} (f : FaultStatus) (h : s.mve.active = none) : s.fault f = s := by
  unfold State.fault
  rw [h]

theorem State.fault_of_active {s : State} {c : Context} (f : FaultStatus) (h : s.mve.active = some c) :
    s.fault f = if c.requester = .tramp then s.faultHigh else (s.park c f).selectTramp := by
  unfold State.fault
  rw [h]
  exact if_congr (Requester.priority_eq_three_iff _) rfl rfl

/-- Settles O47. -/
theorem faultParksOrTrips : Obligations.FaultParksOrTrips := by
  refine fun s f => ⟨State.fault_of_none f, fun c hc => ?_⟩
  intro quiet parked
  have hpark : s.park c f = parked := rfl
  rw [State.fault_of_active f hc, hpark]
  refine ⟨fun h => if_pos h, fun h => ⟨fun hn => ?_, fun ht hg => ?_⟩⟩
  · rw [if_neg h]
    refine if_neg fun hb => ?_
    obtain ⟨hb, ht⟩ := (Bool.and_eq_true _ _).mp hb
    obtain ⟨hg, -⟩ := (Bool.and_eq_true _ _).mp hb
    rcases hn with hn | hn
    · exact Bool.eq_false_iff.1 hn ht
    · exact Bool.eq_false_iff.1 hn hg
  · rw [if_neg h, State.selectTramp_eq (s := parked) hg rfl, if_pos ht]
    exact ⟨fun hl => if_pos hl, fun hl => if_neg hl⟩

/-! ### Completions -/

/-- Update mode steps the stored record and stops at a limit. -/
theorem MoveRecord.advance_of_update {i : Image} {r : MoveRecord} (hg : i.gMin < i.gMax) (h : r.update = true) :
    r.advance i =
      { r with
        argument := max (i.gMin : Int) (min (i.gMax : Int) (r.argument + r.step))
        update :=
          if (i.gMin : Int) ≤ r.argument + r.step ∧ r.argument + r.step ≤ (i.gMax : Int) then r.update
          else false } := by
  unfold MoveRecord.advance
  rw [if_pos h]
  dsimp only
  split
  · rw [if_neg (by omega), show max (i.gMin : Int) (min (i.gMax : Int) (r.argument + r.step)) = i.gMin by omega]
  · split
    · rw [if_neg (by omega), show max (i.gMin : Int) (min (i.gMax : Int) (r.argument + r.step)) = i.gMax by omega]
    · rw [if_pos (by omega),
        show max (i.gMin : Int) (min (i.gMax : Int) (r.argument + r.step)) = r.argument + r.step by omega]

theorem MoveRecord.advance_of_fixed {i : Image} {r : MoveRecord} (h : r.update = false) : r.advance i = r :=
  if_neg (by simp [h])

/-- Writing back the record of a slot changes nothing. -/
theorem Mve.set_record (m : Mve) (n : Nat) : m.table.set n (m.record n) = m.table := by
  unfold Mve.record
  by_cases h : n < m.table.length
  · rw [List.getD_eq_getElem _ _ h, List.set_getElem_self]
  · exact List.set_eq_of_length_le (Nat.le_of_not_lt h)

/-- The state after steps 1 and 2 of a completion. -/
def State.completed (s : State) (c : Context) : State :=
  ((s.stopMoveTimers).updateSlot c).notifyChain c

theorem State.completed_eq (s : State) (c : Context) :
    s.completed c =
      { s with
        mve :=
          { s.mve with
            table :=
              if c.record.kind = .gapTo ∧ (s.mve.record c.slot).update = true then
                s.mve.table.set c.slot ((s.mve.record c.slot).advance s.cfg.image)
              else s.mve.table
            settleTimer := .stopped
            recordTimer := .stopped }
        cwu := { s.cwu with loadCount := 0, stillCount := 0, reference := none }
        evu :=
          if c.record.notify = true ∨ c.record.stop = true then
            ⟨s.evu.events ||| BitVec.twoPow 20 14⟩
          else s.evu } := by
  have hslot : s.stopMoveTimers.updateSlot c =
      { s.stopMoveTimers with
        mve :=
          { s.stopMoveTimers.mve with
            table :=
              if c.record.kind = .gapTo ∧ (s.mve.record c.slot).update = true then
                s.mve.table.set c.slot ((s.mve.record c.slot).advance s.cfg.image)
              else s.mve.table } } := by
    unfold State.updateSlot
    by_cases hk : c.record.kind = .gapTo
    · rw [if_pos (beq_iff_eq.2 hk)]
      cases hu : (s.mve.record c.slot).update
      · have hsame : (s.mve.record c.slot).advance s.cfg.image = s.mve.record c.slot :=
          MoveRecord.advance_of_fixed hu
        rw [if_neg (by simp)]
        change { s.stopMoveTimers with
          mve := { s.stopMoveTimers.mve with
            table := s.mve.table.set c.slot ((s.mve.record c.slot).advance s.cfg.image) } } = _
        rw [hsame, Mve.set_record]
      · rw [if_pos ⟨hk, rfl⟩]
        rfl
    · rw [if_neg (by simpa using hk), if_neg (fun hc => hk hc.1)]
      rfl
  unfold State.completed State.notifyChain
  rw [hslot]
  simp only [Bool.or_eq_true]
  split <;> rfl

theorem State.complete_stop {s : State} {c : Context} (h : c.record.stop = true) :
    s.complete c =
      (if c.requester = .tramp then (s.completed c).noActive.trampEnd else (s.completed c).noActive).select := by
  refine (if_pos h).trans ?_
  unfold State.endChain
  simp only [beq_iff_eq]
  rfl

/-- Settles O48. -/
theorem recordCompletes : Obligations.RecordCompletes := by
  intro s c hg i r sum inside stepped base idle next
  have htable :
      (if c.record.kind = .gapTo ∧ r.update = true then s.mve.table.set c.slot (r.advance i)
        else s.mve.table) =
      if c.record.kind = .gapTo ∧ r.update = true then s.mve.table.set c.slot stepped else s.mve.table := by
    split
    · next hp => rw [MoveRecord.advance_of_update hg hp.2]
    · rfl
  have hbase : s.completed c = base :=
    (s.completed_eq c).trans
      (congrArg (fun records => { base with mve := { base.mve with table := records } }) htable)
  refine ⟨fun ha => ?_, fun hs hr => ?_, fun hs hr => ?_, fun hs hlt => ?_, fun hs hle => ?_⟩
  · have hend : s.trampEnd = if s.mfe.trampIn then
        if s.cwu.attempts < 3 then
          { s with
            cwu := { s.cwu with attempts := s.cwu.attempts + 1 }
            mve := { s.mve with requests := s.mve.requests.put true .tramp } }
        else s.trip .trampUncleared
      else if s.mve.requests.tramp then s
      else { s with cwu := { s.cwu with attempts := 0 } } := if_neg ha
    rw [hend]
    refine ⟨fun ht hlt => (if_pos ht).trans (if_pos hlt), fun ht hle => (if_pos ht).trans (if_neg (by omega)),
      fun ht hp => ?_, fun ht hp => ?_⟩
    · rw [if_neg (by simp [ht]), if_pos hp]
    · rw [if_neg (by simp [ht]), if_neg (by simp [hp])]
  · rw [State.complete_stop hs, hbase, if_neg hr]
    rfl
  · rw [State.complete_stop hs, hbase, if_pos hr]
    rfl
  · refine (if_neg (by simp [hs])).trans ((if_neg (by unfold loopLimit; exact Nat.not_le.2 hlt)).trans ?_)
    exact congrArg (fun t => (State.loadActive t next).finish) hbase
  · refine (if_neg (by simp [hs])).trans ((if_pos hle).trans ?_)
    exact congrArg (fun t => (State.setActive t { next with phase := .load }).fault .loop) hbase

end Sys2Proof.Machine

/-! PROOFS. The evaluation of a contact, and the notices of samples (chapters 3, 7 and 8). -/

namespace Sys2Proof.Machine

/-! ### The wear ring -/

theorem ringSuspect_iff (ring : List CalRecord) :
    ringSuspect ring = true ↔ 3 ≤ ring.length ∧ ∀ r ∈ ring.reverse.take 3, r.accepted = false := by
  simp [ringSuspect]

theorem appendRecord_eq {ring : List CalRecord} (h : ring.length ≤ 8) (r : CalRecord) :
    appendRecord ring r = (if ring.length < 8 then ring else ring.tail) ++ [r] := by
  unfold appendRecord ringLimit
  split
  · rfl
  · have h8 : ring.length + 1 - 8 = 1 := by omega
    rw [h8, List.drop_one]

/-- Gap zero at the latest raw position makes the measured gap 0 there. -/
theorem State.setZero_raw (s : State) :
    s.setZero s.mfe.raw =
      { s with
        cwu := { s.cwu with r0 := s.mfe.raw }
        mfe :=
          if 1 ≤ s.mfe.raw ∧ s.mfe.raw ≤ 4094 ∧ s.mfe.gapValid = true then { s.mfe with gap := 0 }
          else s.mfe } := by
  have hzero : gapOfRaw s.mfe.raw s.cfg.image.kp s.mfe.raw = 0 := if_pos (Nat.le_refl _)
  have hvalid : (rawValid s.mfe.raw && s.mfe.gapValid) = true ↔
      1 ≤ s.mfe.raw ∧ s.mfe.raw ≤ 4094 ∧ s.mfe.gapValid = true := by
    simp [rawValid, and_assoc]
  unfold State.setZero State.reconvertGap
  dsimp only
  rw [hzero]
  split
  · next h => rw [if_pos (hvalid.1 h)]
  · next h => rw [if_neg fun hc => h (hvalid.2 hc)]

theorem addWear_eq (total w : Int) : addWear total w = max (-30000) (min 30000 (total + w)) := by
  unfold addWear clampInt
  split
  · omega
  · split <;> omega

/-- An accepted calibration at the latest raw position. -/
theorem State.acceptContact_raw (s : State) (w : Int) (reference : Bool) :
    let total := if reference then s.cwu.totalWear else max (-30000) (min 30000 (s.cwu.totalWear + w))
    s.acceptContact s.mfe.raw w reference =
      { s with
        cwu := { s.cwu with r0 := s.mfe.raw, totalWear := total, due := false, sinceCal := 0 }
        mfe :=
          if 1 ≤ s.mfe.raw ∧ s.mfe.raw ≤ 4094 ∧ s.mfe.gapValid = true then { s.mfe with gap := 0 }
          else s.mfe
        evu :=
          ⟨s.evu.events ||| BitVec.twoPow 20 15 |||
            (if reference = false ∧ (s.cfg.image.wMax : Int) ≤ total then BitVec.twoPow 20 18 else 0#20)⟩ } := by
  intro total
  have htotal : (if reference then s.cwu.totalWear else addWear s.cwu.totalWear w) = total := by
    rw [addWear_eq]
  have hworn : (!reference && decide ((s.cfg.image.wMax : Int) ≤ total)) = true ↔
      reference = false ∧ (s.cfg.image.wMax : Int) ≤ total := by
    simp
  unfold State.acceptContact
  rw [State.setZero_raw]
  dsimp only
  rw [htotal]
  split
  · next h =>
    rw [if_pos (hworn.1 h)]
    rfl
  · next h =>
    rw [if_neg fun hc => h (hworn.2 hc), BitVec.or_zero]
    rfl

/-- What follows the append of a rejected record. -/
theorem State.afterRejection_eq (s : State) :
    s.afterRejection =
      { s with
        mve :=
          { s.mve with
            requests :=
              { s.mve.requests with
                schedule :=
                  s.mve.requests.schedule ||
                    decide
                      (s.cwu.due = true ∧ s.rsc.runState.isTurning = true ∧
                        s.cfg.image.headSchedule.slot ≠ 0 ∧ ¬ s.cwu.suspended = true) } }
        evu :=
          ⟨s.evu.events ||| (if s.cwu.suspended = true then BitVec.twoPow 20 17 else 0#20)⟩ } := by
  have hchain : s.cfg.image.hasChain .schedule = true ↔ s.cfg.image.headSchedule.slot ≠ 0 := bne_iff_ne
  unfold State.afterRejection State.scheduleAllowed
  cases hs : s.cwu.suspended
  · simp only [Bool.false_eq_true, if_false, not_false_eq_true, and_true,
      BitVec.or_zero]
    by_cases h : s.cwu.due = true ∧ s.rsc.runState.isTurning = true ∧ s.cfg.image.headSchedule.slot ≠ 0
    · obtain ⟨hd, ht, hc⟩ := h
      rw [if_pos (by simp [hd, ht, hs, hchain.2 hc]), decide_eq_true ⟨hd, ht, hc⟩, Bool.or_true]
      rfl
    · rw [if_neg (fun hc => h ?_), decide_eq_false h, Bool.or_false]
      simp only [Bool.and_eq_true, hchain] at hc
      exact ⟨hc.1.1, hc.1.2, hc.2.1⟩
  · simp only [if_true, State.raise_cwu, hs, Bool.not_true, Bool.and_false, Bool.false_eq_true, if_false,
      not_true_eq_false, and_false, decide_false, Bool.or_false]
    rfl

theorem natAbs_le_iff (w : Int) (n : Nat) : w.natAbs ≤ n ↔ -(n : Int) ≤ w ∧ w ≤ (n : Int) := by
  omega

/-- Settles O49, for an accepted and a rejected contact. -/
theorem contactEvaluated : Obligations.ContactEvaluated := by
  refine fun s => ⟨ringSuspect_iff _, fun hlen => ?_⟩
  intro i w accepted number record ring total suspect
  have hw : wearStep s.cwu.r0 s.cfg.image.kp s.mfe.raw = w := rfl
  have hacc : (s.cwu.ring.isEmpty || decide (w.natAbs ≤ s.cfg.image.wJump)) = true ↔ accepted := by
    rw [Bool.or_eq_true, List.isEmpty_iff, decide_eq_true_iff, natAbs_le_iff]
  have hring : ∀ a, appendRecord s.cwu.ring (record a) = ring a := fun a => appendRecord_eq hlen _
  have htotal : (if s.cwu.ring.isEmpty then s.cwu.totalWear
      else max (-30000) (min 30000 (s.cwu.totalWear + w))) = total := by
    simp only [List.isEmpty_iff]
    rfl
  have hcontact : s.evaluateContact =
      if (s.cwu.ring.isEmpty || decide (w.natAbs ≤ s.cfg.image.wJump)) = true then
        (State.acceptContact { s with cwu := { s.cwu with calNumber := number } } s.mfe.raw w
          s.cwu.ring.isEmpty).appendCal (record true)
      else
        State.afterRejection
          (State.appendCal
            (State.raise { s with cwu := { s.cwu with calNumber := number } } .calRejected)
            (record false)) := by
    unfold State.evaluateContact
    dsimp only
    rw [hw]
    split
    · next h => rw [h]; rfl
    · next h => rw [Bool.eq_false_iff.2 h]; rfl
  refine ⟨fun h => ?_, fun h => ?_⟩
  · have haccept := State.acceptContact_raw { s with cwu := { s.cwu with calNumber := number } } w
      s.cwu.ring.isEmpty
    have hworn : (s.cwu.ring.isEmpty = false ∧ (i.wMax : Int) ≤ total) ↔
        s.cwu.ring ≠ [] ∧ (i.wMax : Int) ≤ total := by
      rw [List.isEmpty_eq_false_iff]
    rw [hcontact, if_pos (hacc.2 h)]
    refine (congrArg (fun t => State.appendCal t (record true)) haccept).trans ?_
    unfold State.appendCal
    dsimp only
    rw [hring true, htotal]
    simp only [← hworn]
    rfl
  · rw [hcontact, if_neg (fun hc => h (hacc.1 hc)), State.afterRejection_eq]
    have hsuspect : Cwu.suspended
        { s.cwu with calNumber := number, ring := ring false, selection := 0 } = true ↔ suspect :=
      ringSuspect_iff _
    simp only [State.appendCal_cwu, State.raise_cwu, hring false, hsuspect]
    rfl

end Sys2Proof.Machine

/-! PROOFS. SAMPLE_EVENT: values, conditions, events and what follows (chapter 3). -/

namespace Sys2Proof.Machine

/-! ### Conditions -/

/-- A condition turns when its count is full and the sample counts, goes on when the sample counts, and falls back
otherwise. -/
theorem conditionStep_eq (set : Bool) (count limit : Nat) {sets clears : Prop} [Decidable sets]
    [Decidable clears] :
    conditionStep set count limit (decide sets) (decide clears) =
      (if limit ≤ count + 1 ∧ ((set = false ∧ sets) ∨ (set = true ∧ clears)) then !set else set,
        if limit ≤ count + 1 ∧ ((set = false ∧ sets) ∨ (set = true ∧ clears)) then 0
        else if (set = false ∧ sets) ∨ (set = true ∧ clears) then count + 1 else 0) := by
  unfold conditionStep
  cases set
  · by_cases h : sets <;> by_cases hl : limit ≤ count + 1 <;> simp [h, hl]
  · by_cases h : clears <;> by_cases hl : limit ≤ count + 1 <;> simp [h, hl]

/-! ### What follows a sample -/

theorem State.takeActs_of_many (s : State) {acts : List SampleAct} (h : 2 ≤ acts.length) :
    ∃ order : List SampleAct, order.Perm acts ∧
      s.takeActs acts = order.foldl State.act { s with draws := s.draws + 1 } := by
  match acts, h with
  | a :: b :: l, _ => exact ⟨_, arrange_perm _ _, rfl⟩

theorem State.selectedAct_eq (s : State) (k : EventKind) :
    s.selectedAct k = if s.cfg.image.tripMask.has k then [SampleAct.selected k] else [] := rfl

theorem Role.uses_level (r : Role) : r.uses .level = true ↔ r ≠ .feeder := by
  cases r <;> simp [Role.uses]

theorem Role.uses_load (r : Role) : r.uses .load = true ↔ r = .crusher := by
  cases r <;> simp [Role.uses]

theorem Role.uses_gapPos (r : Role) : r.uses .gapPos = true ↔ r = .crusher := by
  cases r <;> simp [Role.uses]

/-- A sample is taken outside OFFLINE, on a channel that the role uses. -/
theorem State.samples_of_used {s : State} {ch : Channel} (ho : s.rsc.runState ≠ .offline)
    (hu : s.cfg.image.role.uses ch = true) :
    (s.rsc.runState != .offline && s.cfg.image.role.uses ch) = true :=
  (Bool.and_eq_true _ _).mpr ⟨bne_iff_ne.2 ho, hu⟩

theorem State.sample_of_unused {s : State} {ch : Channel} (n : Nat)
    (h : s.rsc.runState = .offline ∨ ¬ s.cfg.image.role.uses ch = true) : s.sample ch n = s := by
  refine if_neg fun hc => ?_
  obtain ⟨ho, hu⟩ := (Bool.and_eq_true _ _).mp hc
  exact h.elim (bne_iff_ne.1 ho) fun hn => hn hu

theorem exec_sampleEvent {s : State} (ch : Channel) (count : BitVec 12) (hh : s.cfg.held = false) :
    exec (.sampleEvent ch count) s = .next (s.sample ch count.toNat).drive :=
  s.event_of_free (fun t => t.sample ch count.toNat) hh

/-- The OVERLOAD notice: the cause, and then the request. -/
theorem State.act_overload (s : State) :
    let held := s.changeHold { s.rsc.hold with overload := s.mfe.overload }
    s.act .overload =
      if s.mfe.overload = true ∧ held.rsc.runState.isTurning = true ∧
          s.cfg.image.headOverload.slot ≠ 0 then
        held.request .overload
      else held := by
  intro held
  have hcfg : held.cfg = s.cfg := (State.Keeps.along.changeHold s _).cfg
  have hchain : held.cfg.image.hasChain .overload = true ↔ s.cfg.image.headOverload.slot ≠ 0 := by
    rw [hcfg]
    exact bne_iff_ne
  change (if (s.mfe.overload && held.rsc.runState.isTurning) = true then
    (if held.cfg.image.hasChain .overload = true then held.request .overload else held) else held) = _
  by_cases h1 : s.mfe.overload = true ∧ held.rsc.runState.isTurning = true
  · rw [if_pos ((Bool.and_eq_true _ _).mpr h1)]
    exact if_congr (by rw [hchain]; simp [h1]) rfl rfl
  · rw [if_neg (fun hc => h1 ((Bool.and_eq_true _ _).mp hc)), if_neg fun hc => h1 ⟨hc.1, hc.2.1⟩]

theorem State.act_selected (s : State) (k : EventKind) :
    s.act (.selected k) =
      if s.cfg.image.tripMask.has k = true ∧ s.rsc.runState.inGroup = true then s.trip .selected else s := by
  change s.tripIfSelected k = _
  unfold State.tripIfSelected
  simp only [Bool.and_eq_true]

/-! ### LOAD and LEVEL -/

theorem Mfe.stepOverload_eq (m : Mfe) (i : Image) :
    m.stepOverload i =
      { m with
        overload :=
          if 4 ≤ m.overloadCount + 1 ∧
              ((m.overload = false ∧ i.pOvl ≤ m.load) ∨ (m.overload = true ∧ m.load < i.pLim)) then
            !m.overload
          else m.overload
        overloadCount :=
          if 4 ≤ m.overloadCount + 1 ∧
              ((m.overload = false ∧ i.pOvl ≤ m.load) ∨ (m.overload = true ∧ m.load < i.pLim)) then 0
          else if (m.overload = false ∧ i.pOvl ≤ m.load) ∨ (m.overload = true ∧ m.load < i.pLim) then
            m.overloadCount + 1
          else 0 } := by
  unfold Mfe.stepOverload
  rw [conditionStep_eq]

theorem Mfe.stepLevelHigh_eq (m : Mfe) (i : Image) :
    m.stepLevelHigh i =
      { m with
        levelHigh :=
          if 2 ≤ m.levelCount + 1 ∧
              ((m.levelHigh = false ∧ i.lHigh ≤ m.level) ∨
                (m.levelHigh = true ∧ m.level + 50 < i.lHigh)) then
            !m.levelHigh
          else m.levelHigh
        levelCount :=
          if 2 ≤ m.levelCount + 1 ∧
              ((m.levelHigh = false ∧ i.lHigh ≤ m.level) ∨
                (m.levelHigh = true ∧ m.level + 50 < i.lHigh)) then 0
          else if (m.levelHigh = false ∧ i.lHigh ≤ m.level) ∨
              (m.levelHigh = true ∧ m.level + 50 < i.lHigh) then
            m.levelCount + 1
          else 0 } := by
  unfold Mfe.stepLevelHigh
  rw [conditionStep_eq]

/-- The MFE after a LOAD sample. -/
def State.loaded (s : State) (n : Nat) : Mfe := Mfe.stepOverload { s.mfe with load := loadOfCount n } s.cfg.image

/-- The MFE after a LEVEL sample. -/
def State.levelled (s : State) (n : Nat) : Mfe :=
  Mfe.stepLevelHigh { s.mfe with level := levelOfCount n } s.cfg.image

theorem State.loadSample_same {s : State} {n : Nat} (h : (s.loaded n).overload = s.mfe.overload) :
    s.loadSample n = State.loadNotice { s with mfe := s.loaded n } :=
  if_pos (beq_iff_eq.2 h)

theorem State.loadSample_sets {s : State} {n : Nat} (h : s.mfe.overload = false)
    (hm : (s.loaded n).overload = true) :
    s.loadSample n =
      (State.raise { s with mfe := s.loaded n } .overload).takeActs
        (State.selectedAct { s with mfe := s.loaded n } .overload ++ [.overload, .load]) :=
  (if_neg (by
    change ¬ ((s.loaded n).overload == s.mfe.overload) = true
    simp [h, hm])).trans (if_pos hm)

theorem State.loadSample_clears {s : State} {n : Nat} (h : s.mfe.overload = true)
    (hm : (s.loaded n).overload = false) :
    s.loadSample n = State.takeActs { s with mfe := s.loaded n } [.overload, .load] :=
  (if_neg (by
    change ¬ ((s.loaded n).overload == s.mfe.overload) = true
    simp [h, hm])).trans (if_neg (Bool.eq_false_iff.1 hm))

theorem State.levelSample_same {s : State} {n : Nat} (h : (s.levelled n).levelHigh = s.mfe.levelHigh) :
    s.levelSample n = { s with mfe := s.levelled n } :=
  if_pos (beq_iff_eq.2 h)

theorem State.levelSample_sets {s : State} {n : Nat} (h : s.mfe.levelHigh = false)
    (hm : (s.levelled n).levelHigh = true) :
    s.levelSample n =
      (State.raise { s with mfe := s.levelled n } .levelHigh).takeActs
        (State.selectedAct { s with mfe := s.levelled n } .levelHigh ++ [.levelHigh]) :=
  (if_neg (by
    change ¬ ((s.levelled n).levelHigh == s.mfe.levelHigh) = true
    simp [h, hm])).trans (if_pos hm)

theorem State.levelSample_clears {s : State} {n : Nat} (h : s.mfe.levelHigh = true)
    (hm : (s.levelled n).levelHigh = false) :
    s.levelSample n = State.levelNotice { s with mfe := s.levelled n } :=
  (if_neg (by
    change ¬ ((s.levelled n).levelHigh == s.mfe.levelHigh) = true
    simp [h, hm])).trans (if_neg (Bool.eq_false_iff.1 hm))

/-- Settles O50, channel by channel, by whether the condition turns. -/
theorem loadAndLevelSamples : Obligations.LoadAndLevelSamples := by
  intro s count hh i load level turnsLoad goesOnLoad turnsLevel goesOnLevel m n after held
  have hload : loadOfCount count.toNat = load := satNat_eq_min _ _
  have hlevel : levelOfCount count.toNat = level := satNat_eq_min _ _
  have hm : s.loaded count.toNat = m := by
    unfold State.loaded
    rw [hload, Mfe.stepOverload_eq]
  have hn : s.levelled count.toNat = n := by
    unfold State.levelled
    rw [hlevel, Mfe.stepLevelHigh_eq]
  rw [exec_sampleEvent .load count hh, exec_sampleEvent .level count hh]
  refine ⟨s.act_overload, rfl, s.act_selected, rfl, fun h => ?_, fun h => ?_, fun ho hr => ?_, fun ho hr => ?_⟩
  · rw [State.sample_of_unused _ (h.imp_right fun hr => by rw [Role.uses_load]; exact hr)]
  · rw [State.sample_of_unused _ (h.imp_right fun hr => by rw [Role.uses_level]; exact fun hn => hn hr)]
  · have hsample : s.sample .load count.toNat = s.loadSample count.toNat :=
      if_pos (State.samples_of_used ho ((Role.uses_load _).2 hr))
    have hafter : ∀ u acts, s.loadSample count.toNat = State.takeActs u acts → u.draws = s.draws →
        2 ≤ acts.length → after u acts := by
      intro u acts hu hd hlen
      obtain ⟨order, hperm, htake⟩ := u.takeActs_of_many hlen
      refine ⟨order, hperm, ?_⟩
      rw [exec_sampleEvent .load count hh, hsample, hu, htake, hd]
    rw [hsample]
    refine ⟨fun ht => ?_, fun ht hov => ?_, fun ht hov => ?_⟩
    · rw [State.loadSample_same (by rw [hm]; exact if_neg ht), hm]
    · have hmo : (s.loaded count.toNat).overload = false := by
        rw [hm]
        exact (if_pos ht).trans (by rw [hov]; rfl)
      exact hafter _ _ ((State.loadSample_clears hov hmo).trans (by rw [hm])) rfl (by simp)
    · have hmo : (s.loaded count.toNat).overload = true := by
        rw [hm]
        exact (if_pos ht).trans (by rw [hov]; rfl)
      exact hafter _ _ ((State.loadSample_sets hov hmo).trans (by rw [hm]; rfl)) rfl (by simp)
  · have hsample : s.sample .level count.toNat = s.levelSample count.toNat :=
      if_pos (State.samples_of_used ho ((Role.uses_level _).2 hr))
    rw [hsample]
    refine ⟨fun ht => ?_, fun ht hov => ?_, fun ht hov hs => ?_, fun ht hov hs => ?_⟩
    · rw [State.levelSample_same (by rw [hn]; exact if_neg ht), hn]
    · have hno : (s.levelled count.toNat).levelHigh = false := by
        rw [hn]
        exact (if_pos ht).trans (by rw [hov]; rfl)
      rw [State.levelSample_clears hov hno]
      unfold State.levelNotice
      dsimp only
      rw [hno, hn]
    · have hno : (s.levelled count.toNat).levelHigh = true := by
        rw [hn]
        exact (if_pos ht).trans (by rw [hov]; rfl)
      rw [State.levelSample_sets hov hno, State.selectedAct_eq,
        if_neg (show ¬ s.cfg.image.tripMask.has .levelHigh = true from Bool.eq_false_iff.1 hs)]
      change Host.Outcome.next (State.drive (State.levelNotice _)) = _
      unfold State.levelNotice
      dsimp only [State.raise_mfe]
      rw [hno, hn]
      rfl
    · have hno : (s.levelled count.toNat).levelHigh = true := by
        rw [hn]
        exact (if_pos ht).trans (by rw [hov]; rfl)
      obtain ⟨order, hperm, htake⟩ :=
        (State.raise { s with mfe := n } .levelHigh).takeActs_of_many
          (acts := [.selected .levelHigh, .levelHigh]) (by simp)
      refine ⟨order, hperm, ?_⟩
      rw [State.levelSample_sets hov hno, State.selectedAct_eq,
        if_pos (show s.cfg.image.tripMask.has .levelHigh = true from hs), hn]
      exact congrArg (fun t => Host.Outcome.next (State.drive t)) htake

end Sys2Proof.Machine

/-! PROOFS. GAPPOS samples, and the notices of samples at the move engine (chapters 3, 7 and 8). -/

namespace Sys2Proof.Machine

/-! ### GAPPOS -/

theorem rawValid_iff (n : Nat) : rawValid n = true ↔ 1 ≤ n ∧ n ≤ 4094 := by
  simp [rawValid]

theorem gapOfRaw_eq (r0 kp r : Nat) :
    gapOfRaw r0 kp r = if r ≤ r0 then 0 else min 3000 ((r - r0) * kp / 256) := by
  unfold gapOfRaw
  rw [satNat_eq_min]

/-- The state after a GAPPOS sample of a wire fault, before its event. -/
def State.wireFault (s : State) (n : Nat) : State :=
  { s with mfe := { s.mfe with raw := n, gapValid := false, gapSampled := true } }

theorem State.gapSample_of_valid {s : State} {n : Nat} (h : rawValid n = true) :
    s.gapSample n =
      State.gapNotice
        { s with
          mfe :=
            { s.mfe with
              raw := n
              gap := gapOfRaw s.cwu.r0 s.cfg.image.kp n
              gapValid := true
              gapSampled := true } } :=
  if_pos h

theorem State.gapSample_of_fault {s : State} {n : Nat} (h : rawValid n = false) :
    s.gapSample n =
      if s.mfe.gapValid = true ∨ s.mfe.gapSampled = false then
        ((s.wireFault n).raise .gapSensor).takeActs
          ((if s.cfg.image.tripMask.has .gapSensor then [SampleAct.selected .gapSensor] else []) ++ [.gap])
      else (s.wireFault n).gapNotice := by
  refine (if_neg (Bool.eq_false_iff.1 h)).trans ?_
  refine if_congr ?_ rfl rfl
  simp

/-- Settles O51, by the raw count and the selection of GAP_SENSOR. -/
theorem gapSamples : Obligations.GapSamples := by
  refine fun s count => ⟨rfl, fun hh => ?_⟩
  intro valid gap good bad told
  have hvalid : rawValid count.toNat = true ↔ valid := rawValid_iff _
  have hbad : s.wireFault count.toNat = bad := rfl
  have htold : bad.raise .gapSensor = told := rfl
  rw [exec_sampleEvent .gapPos count hh]
  refine ⟨fun h => ?_, fun ho hr => ?_⟩
  · rw [State.sample_of_unused _ (h.imp_right fun hr => by rw [Role.uses_gapPos]; exact hr)]
  · have hsample : s.sample .gapPos count.toNat = s.gapSample count.toNat :=
      if_pos (State.samples_of_used ho ((Role.uses_gapPos _).2 hr))
    have hfault : ¬ valid → rawValid count.toNat = false :=
      fun hv => Bool.eq_false_iff.2 fun hc => hv (hvalid.1 hc)
    rw [hsample]
    refine ⟨fun hv => ?_, fun hv hg hs => ?_, fun hv hg => ⟨fun hm => ?_, fun hm => ?_⟩⟩
    · rw [State.gapSample_of_valid (hvalid.2 hv), gapOfRaw_eq]
    · rw [State.gapSample_of_fault (hfault hv), if_neg (by simp [hg, hs]), hbad]
    · rw [State.gapSample_of_fault (hfault hv), if_pos hg, if_neg (Bool.eq_false_iff.1 hm), hbad, htold]
      rfl
    · obtain ⟨order, hperm, htake⟩ :=
        told.takeActs_of_many (acts := [.selected .gapSensor, .gap]) (by simp)
      refine ⟨order, hperm, ?_⟩
      rw [State.gapSample_of_fault (hfault hv), if_pos hg, if_pos hm, hbad, htold]
      exact congrArg (fun t => Host.Outcome.next (State.drive t)) htake

/-! ### The notices at the active record -/

theorem State.gapNotice_of_none {s : State} (h : s.mve.active = none) : s.gapNotice = s := by
  unfold State.gapNotice
  rw [h]

theorem State.loadNotice_of_none {s : State} (h : s.mve.active = none) : s.loadNotice = s := by
  unfold State.loadNotice
  rw [h]

section

variable {s : State} {c : Context} (hc : s.mve.active = some c)
include hc

theorem State.gapNotice_drive {target : Nat} {sense : Sense} {d : Direction} (hw : c.work = .gap target sense)
    (hp : c.phase = .drive d) : s.gapNotice = (s.driveSample c d target).syncHold := by
  unfold State.gapNotice
  simp only [hc, hw, hp]

theorem State.gapNotice_verify {target : Nat} {sense : Sense} {n : Nat} (hw : c.work = .gap target sense)
    (hp : c.phase = .verify n) : s.gapNotice = (s.verifySample c n target).syncHold := by
  unfold State.gapNotice
  simp only [hc, hw, hp]

theorem State.gapNotice_touch {d : Direction} (hw : c.work = .touch) (hp : c.phase = .drive d) :
    s.gapNotice = (s.touchSample c).syncHold := by
  unfold State.gapNotice
  simp only [hc, hw, hp]

/-- Outside DRIVE and VERIFY a GAPPOS sample has no effect. -/
theorem State.gapNotice_idle (hp : (∀ d, c.phase ≠ .drive d) ∧ ∀ n, c.phase ≠ .verify n) :
    s.gapNotice = s := by
  unfold State.gapNotice
  rw [hc]
  obtain ⟨hd, hv⟩ := hp
  cases hw : c.work <;> cases hph : c.phase <;> simp_all

/-- A LOAD sample counts at a TOUCH in DRIVE. -/
theorem State.loadNotice_touch {d : Direction} (hw : c.work = .touch) (hp : c.phase = .drive d) :
    s.loadNotice =
      if (s.cwu.countLoad s.cfg.image.pTouch s.mfe.load).contactMade then
        (State.contact { s with cwu := s.cwu.countLoad s.cfg.image.pTouch s.mfe.load } c).syncHold
      else { s with cwu := s.cwu.countLoad s.cfg.image.pTouch s.mfe.load } := by
  unfold State.loadNotice
  simp only [hc, hw, hp]

/-- Elsewhere a LOAD sample evaluates the STOP settle test. -/
theorem State.loadNotice_other (h : c.work ≠ .touch ∨ ∀ d, c.phase ≠ .drive d) : s.loadNotice = s.stopTest := by
  unfold State.loadNotice
  rw [hc]
  cases hw : c.work <;> cases hp : c.phase <;> simp_all

end

theorem State.driveSample_invalid {s : State} (c : Context) (d : Direction) (target : Nat)
    (h : s.mfe.gapValid = false) : s.driveSample c d target = s.fault .sensor :=
  if_pos (by rw [h]; rfl)

theorem State.driveSample_valid {s : State} (c : Context) (d : Direction) (target : Nat)
    (h : s.mfe.gapValid = true) :
    s.driveSample c d target =
      if (d = .raise ∧ target ≤ s.mfe.gap + s.cfg.image.db) ∨
          (d = .lower ∧ s.mfe.gap ≤ target + s.cfg.image.db) then
        s.setActive { c with phase := .verify 0 }
      else s := by
  refine (if_neg (by simp [h])).trans ?_
  cases d <;> simp

theorem State.verifySample_invalid {s : State} (c : Context) (n target : Nat)
    (h : s.mfe.gapValid = false) : s.verifySample c n target = s.fault .sensor :=
  if_pos (by rw [h]; rfl)

theorem State.verifySample_valid {s : State} (c : Context) (n target : Nat) (h : s.mfe.gapValid = true) :
    s.verifySample c n target =
      if target ≤ s.mfe.gap + s.cfg.image.db ∧ s.mfe.gap ≤ target + s.cfg.image.db then
        if n + 1 < 2 then s.setActive { c with phase := .verify (n + 1) }
        else s.complete { c with phase := .done }
      else if c.redrives < 2 then (s.driveDecision { c with redrives := c.redrives + 1 } false).finish
      else s.fault .hunting := by
  refine (if_neg (by simp [h])).trans ?_
  exact if_congr (by simp) rfl rfl

theorem Cwu.countStill_eq (c : Cwu) (raw : Nat) :
    c.countStill raw =
      { c with
        reference := some raw
        stillCount := if c.reference = some raw then c.stillCount + 1 else 0 } := by
  unfold Cwu.countStill
  split
  · next h => rw [← h]
  · rfl

theorem Cwu.contactMade_iff (c : Cwu) : c.contactMade = true ↔ 2 ≤ c.loadCount ∨ 3 ≤ c.stillCount := by
  simp [Cwu.contactMade]

theorem State.touchSample_valid {s : State} (c : Context) (h : s.mfe.gapValid = true) :
    s.touchSample c =
      if (s.cwu.countStill s.mfe.raw).contactMade then
        State.contact { s with cwu := s.cwu.countStill s.mfe.raw } c
      else { s with cwu := s.cwu.countStill s.mfe.raw } :=
  if_neg (by simp [h])

/-- Settles O52, by the working copy and the phase of the active record. -/
theorem sampleNotices : Obligations.SampleNotices := by
  refine fun s => ⟨fun h => ⟨State.gapNotice_of_none h, State.loadNotice_of_none h⟩, fun c => rfl, fun c hc => ?_⟩
  intro db
  refine ⟨fun target sense hw => ?_, fun hp => ?_, fun hp => ?_, fun hw d hp => ?_⟩
  · intro within
    refine ⟨fun d hp => ⟨fun hv => ?_, fun hv => ⟨fun h => ?_, fun h => ?_⟩⟩, fun n hp => ?_,
      State.loadNotice_other hc (.inl (by simp [hw]))⟩
    · rw [State.gapNotice_drive hc hw hp, State.driveSample_invalid c d target hv]
    · rw [State.gapNotice_drive hc hw hp, State.driveSample_valid c d target hv, if_pos h]
    · rw [State.gapNotice_drive hc hw hp, State.driveSample_valid c d target hv, if_neg ?_]
      rintro (⟨hd, hle⟩ | ⟨hd, hle⟩) <;> rcases h with ⟨hd', hlt⟩ | ⟨hd', hlt⟩
      · exact absurd hle (Nat.not_le.2 hlt)
      · rw [hd] at hd'; cases hd'
      · rw [hd] at hd'; cases hd'
      · exact absurd hle (Nat.not_le.2 hlt)
    · rw [State.gapNotice_verify hc hw hp]
      refine ⟨fun hv => ?_, fun hv hin hn => ?_, fun hv hin hn => ?_, fun hv hout hr => ?_, fun hv hout hr => ?_⟩
      · rw [State.verifySample_invalid c n target hv]
      · rw [State.verifySample_valid c n target hv, if_pos hin, if_pos (by omega), hn]
      · rw [State.verifySample_valid c n target hv, if_pos hin, if_neg (by omega)]
      · rw [State.verifySample_valid c n target hv, if_neg hout, if_pos hr]
      · rw [State.verifySample_valid c n target hv, if_neg hout, if_neg (by omega)]
  · intro settled left
    have hsettled : s.stopSettled = true ↔ settled := s.stopSettled_iff
    have hload : s.loadNotice = s.stopTest := State.loadNotice_other hc (.inr (by simp [hp]))
    have hfeed : c.feed = .stop ↔ c.record.kind = .touch ∨ c.record.feed = .stop := by
      rw [Context.feed_eq]
      split <;> simp_all
    rw [hload, State.stopTest_of_active hc]
    refine ⟨State.gapNotice_idle hc (by simp [hp]), fun hf hs => if_pos ⟨hp, hfeed.2 hf, hsettled.2 hs⟩,
      fun hf hs => if_neg fun h => hs (hsettled.1 h.2.2), fun hk hf => if_neg fun h => ?_⟩
    exact (hfeed.1 h.2.1).elim hk hf
  · have hload : s.loadNotice = s.stopTest := State.loadNotice_other hc (.inr (by simp [hp]))
    rw [hload, State.stopTest_of_active hc]
    exact ⟨State.gapNotice_idle hc (by simp [hp]), if_neg (by simp [hp])⟩
  · intro stillCount stood loadCount pressed
    have hstill : s.cwu.countStill s.mfe.raw = stood.cwu := Cwu.countStill_eq _ _
    have hstood : stood.cwu.contactMade = true ↔ 2 ≤ s.cwu.loadCount ∨ 3 ≤ stillCount :=
      Cwu.contactMade_iff _
    have hpressed : pressed.cwu.contactMade = true ↔ 2 ≤ loadCount ∨ 3 ≤ s.cwu.stillCount :=
      Cwu.contactMade_iff _
    rw [State.gapNotice_touch hc hw hp, State.loadNotice_touch hc hw hp]
    refine ⟨fun hv => ?_, fun hv => ?_, fun h => if_pos (hpressed.2 h), fun hl hs => if_neg ?_⟩
    · rw [show s.touchSample c = s.fault .sensor from if_pos (by rw [hv]; rfl)]
    · rw [State.touchSample_valid c hv, hstill]
      refine ⟨fun h => ?_, fun hs hl => ?_⟩
      · rw [if_pos (hstood.2 h.symm)]
      · rw [if_neg (fun h => by have := hstood.1 h; omega)]
    · intro h
      have := hpressed.1 h
      omega

end Sys2Proof.Machine

/-! PROOFS. Entry to the running group, the ways out of it, and the timers of the run-state controller
(chapter 5). -/

namespace Sys2Proof.Machine

/-! ### Entry to the running group -/

/-- The seconds timer of a CRUSHER starts as a station begins to turn. -/
theorem Cwu.onRunState_turn (c : Cwu) (role : Role) (old : RunState) {new : RunState}
    (hnew : new.isTurning = true) :
    c.onRunState role old new =
      { c with secondsTimer := if role = .crusher then c.secondsTimer.start else c.secondsTimer } := by
  unfold Cwu.onRunState
  simp only [RunState.inGroup_of_isTurning hnew, hnew, Bool.not_true, Bool.and_false, Bool.false_eq_true,
    if_false, if_true, beq_iff_eq]
  split <;> rfl

/-- A station of STARTING begins to turn. -/
theorem State.changeRun_turn {s : State} {new : RunState} (h : s.rsc.runState = .starting)
    (hnew : new.isTurning = true) :
    s.changeRun new =
      { s with
        lbi := s.early.lbi
        rsc := { s.rsc with runState := new }
        cwu :=
          { s.cwu with
            secondsTimer :=
              if s.cfg.image.role = .crusher then s.cwu.secondsTimer.start else s.cwu.secondsTimer } } := by
  have hg := RunState.inGroup_of_isTurning hnew
  have hne : s.rsc.runState ≠ new := fun hc => by rw [← hc, h] at hg; cases hg
  have ht : new ≠ .tripped := fun hc => by rw [hc] at hg; cases hg
  have hlbi : s.lbi.onRunState s.rsc.runState new = s.lbi := by simp [Lbi.onRunState, h]
  have hale : s.ale.onRunState s.rsc.runState new = s.ale := by simp [Ale.onRunState, h]
  have hrsc : s.rsc.onRunState new = { s.rsc with runState := new } := by
    simp [Rsc.onRunState, h, RunState.inGroup]
  have hmve : s.mve.onRunState s.rsc.runState new = s.mve := by
    simp [Mve.onRunState, h, RunState.inGroup, ht]
  rw [State.changeRun_eq_of_ne hne (by simp [h]) (RunState.ne_offline_of_inGroup hg), hlbi, hale, hrsc, hmve,
    Cwu.onRunState_turn _ _ _ hnew]

/-- The run state that an entry takes. -/
def State.entryState (s : State) : RunState := if s.entryHold.isEmpty then .running else .holding

theorem State.entryState_turns (s : State) : s.entryState.isTurning = true := by
  unfold State.entryState
  split <;> rfl

/-- The state of an entry, with the interlock evaluated and its requests raised, before the selection. -/
theorem State.entry_eq {s : State} (h : s.rsc.runState = .starting) :
    s.enterStates.evaluateInterlock =
      { s with
        lbi := s.early.lbi
        rsc :=
          { s.rsc with
            runState := s.entryState
            subPhase := none
            startTimer := .stopped
            spinTimer := .stopped
            hold := s.entryHold
            interlockTimer :=
              s.rsc.interlockTimer.follow
                (s.cfg.image.role != .bin && !s.cfg.image.terminal && s.noneActive) }
        cwu :=
          { s.cwu with
            attempts := if s.entryHold.tramp then 1 else s.cwu.attempts
            secondsTimer :=
              if s.cfg.image.role = .crusher then s.cwu.secondsTimer.start else s.cwu.secondsTimer } } := by
  have hstates : s.enterStates =
      { s with
        lbi := s.early.lbi
        rsc :=
          { s.rsc with
            runState := s.entryState
            subPhase := none
            startTimer := .stopped
            spinTimer := .stopped
            hold := s.entryHold }
        cwu :=
          { s.cwu with
            attempts := if s.entryHold.tramp then 1 else s.cwu.attempts
            secondsTimer :=
              if s.cfg.image.role = .crusher then s.cwu.secondsTimer.start else s.cwu.secondsTimer } } := by
    unfold State.enterStates
    dsimp only
    rw [show (if s.entryHold.isEmpty then RunState.running else .holding) = s.entryState from rfl,
      State.changeRun_turn h s.entryState_turns]
  rw [hstates]
  have hinter : ∀ t : State, t.rsc.runState.isTurning = true →
      t.interlockCondition = (t.cfg.image.role != .bin && !t.cfg.image.terminal && t.noneActive) := by
    intro t ht
    simp [State.interlockCondition, ht]
  unfold State.evaluateInterlock
  rw [hinter _ s.entryState_turns]
  rfl

theorem State.trampAtEntry_iff (s : State) :
    s.trampAtEntry = true ↔
      (s.cfg.image.role = .crusher ∧ s.mfe.trampIn = true) ∧ s.cfg.image.headTramp.slot ≠ 0 := by
  simp [State.trampAtEntry, Image.hasChain, Image.head]

/-- Settles O57: steps of the entry, and then the selection and perhaps a trip. -/
theorem groupEntered : Obligations.GroupEntered := by
  intro s hr i relief chain h idle entered
  have htramp : s.trampAtEntry = decide (relief ∧ chain) := by
    rw [Bool.eq_iff_iff, decide_eq_true_iff]
    exact s.trampAtEntry_iff
  have hhold : s.entryHold = h := by
    unfold State.entryHold
    rw [htramp]
  have hstate : s.entryState = if h = HoldSet.empty then .running else .holding := by
    unfold State.entryState
    rw [hhold]
    exact if_congr (HoldSet.isEmpty_iff h) rfl rfl
  have hschedule : (s.cfg.image.role == .crusher && s.cwu.due && s.scheduleAllowed) =
      decide (i.role = .crusher ∧ s.cwu.due = true ∧ i.headSchedule.slot ≠ 0 ∧ s.cwu.suspended = false) := by
    rw [Bool.eq_iff_iff, decide_eq_true_iff]
    simp [State.scheduleAllowed, Image.hasChain, Image.head, and_assoc, i]
  have hreq : s.entryRequests = entered.mve.requests := by
    unfold State.entryRequests
    rw [htramp, hschedule]
    rfl
  have hidle : (s.cfg.image.role != .bin && !s.cfg.image.terminal && s.noneActive) = decide idle := by
    rw [Bool.eq_iff_iff, decide_eq_true_iff]
    simp [← State.noneActive_iff, and_assoc, idle, i]
  have htimer : s.rsc.interlockTimer.follow
      (s.cfg.image.role != .bin && !s.cfg.image.terminal && s.noneActive) =
      if idle then s.rsc.interlockTimer.start else .stopped := by
    rw [hidle]
    unfold Timer.follow
    simp only [decide_eq_true_iff]
  have hattempts : (if s.entryHold.tramp = true then 1 else s.cwu.attempts) =
      if relief ∧ chain then 1 else s.cwu.attempts := by
    rw [hhold]
    exact if_congr decide_eq_true_iff rfl rfl
  have hentered : (let t := s.enterStates.evaluateInterlock
      { t with mve := { t.mve with requests := s.entryRequests } }) = entered := by
    rw [State.entry_eq hr, hreq, hattempts, hhold, hstate, htimer]
  have hcond : (s.cfg.image.role == .crusher && s.mfe.trampIn && !s.cfg.image.hasChain .tramp) = true ↔
      relief ∧ ¬ chain := by
    simp [Image.hasChain, Image.head, relief, chain, i]
  rw [← hentered]
  exact if_congr hcond rfl rfl

/-! ### Leaving the running group -/

/-- The running group is left for READY. -/
theorem State.leaveGroup_eq {s : State} (hg : s.rsc.runState.inGroup = true) :
    s.leaveGroup =
      { s with
        lbi := s.early.lbi
        ale := if s.rsc.runState.isTurning then { Ale.reset with cap := s.ale.cap } else s.ale
        rsc :=
          { s.rsc with
            runState := .ready, hold := HoldSet.empty, interlockTimer := .stopped, drainTimer := .stopped }
        mve :=
          { s.mve with
            active := none
            stack := []
            requests := { RequestSet.empty with orderGap := s.mve.requests.orderGap }
            settleTimer := .stopped
            recordTimer := .stopped }
        cwu :=
          { s.cwu with
            attempts := 0
            loadCount := 0
            stillCount := 0
            reference := none
            secondsTimer := if s.cfg.image.role = .crusher then .stopped else s.cwu.secondsTimer } } := by
  have hne : s.rsc.runState ≠ .ready := fun hc => by rw [hc] at hg; cases hg
  have hlbi : s.lbi.onRunState s.rsc.runState .ready = s.lbi :=
    if_neg fun hc => by
      rw [beq_iff_eq.1 ((Bool.and_eq_true _ _).mp hc).1] at hg
      cases hg
  have hale : s.ale.onRunState s.rsc.runState .ready =
      if s.rsc.runState.isTurning then { Ale.reset with cap := s.ale.cap } else s.ale := by
    rcases (RunState.inGroup_iff _).1 hg with hr | hr | hr <;> rw [hr] <;> rfl
  have hrsc : s.rsc.onRunState .ready =
      { s.rsc with
        runState := .ready, hold := HoldSet.empty, interlockTimer := .stopped, drainTimer := .stopped } :=
    if_pos (by rw [hg]; rfl)
  have hmve : s.mve.onRunState s.rsc.runState .ready = s.mve.discard :=
    (if_neg (by decide)).trans (if_pos (by rw [hg]; rfl))
  have hcwu : s.cwu.onRunState s.cfg.image.role s.rsc.runState .ready =
      { s.cwu with
        attempts := 0
        loadCount := 0
        stillCount := 0
        reference := none
        secondsTimer := if s.cfg.image.role = .crusher then .stopped else s.cwu.secondsTimer } := by
    have hready : RunState.ready.inGroup = false := rfl
    have hstill : RunState.ready.isTurning = false := rfl
    unfold Cwu.onRunState
    simp only [hg, hready, hstill, Bool.not_false, Bool.and_self, if_true, Bool.false_eq_true, if_false,
      beq_iff_eq]
    split <;> rfl
  unfold State.leaveGroup
  rw [State.changeRun_eq_of_ne hne (RunState.ne_offline_of_inGroup hg) (by decide), hlbi, hale, hrsc, hmve, hcwu]
  rfl

theorem Timer.isRunning_iff (t : Timer) : t.isRunning = true ↔ t ≠ .stopped := by
  cases t <;> simp [Timer.isRunning]

/-- Settles O59, timer by timer. -/
theorem runTimersExpire : Obligations.RunTimersExpire := by
  intro s hh waiting spinning stops drained secondsTimer left
  rw [show exec .startLimitExpiry s = .next s.startLimitExpiry.drive from s.event_of_free _ hh,
    show exec .spinUpExpiry s = .next s.spinUpExpiry.drive from s.event_of_free _ hh,
    show exec .interlockExpiry s = .next s.interlockExpiry.drive from s.event_of_free _ hh,
    show exec .drainExpiry s = .next s.drainExpiry.drive from s.event_of_free _ hh]
  have hwaiting : (s.rsc.startTimer.isRunning && s.rsc.runState == .starting &&
      s.rsc.subPhase == some .waitDownstream) = true ↔ waiting := by
    simp [Timer.isRunning_iff, and_assoc, waiting]
  have hspinning : (s.rsc.spinTimer.isRunning && s.rsc.runState == .starting &&
      s.rsc.subPhase == some .spinUp) = true ↔ spinning := by
    simp [Timer.isRunning_iff, and_assoc, spinning]
  have hstops : (s.rsc.interlockTimer.isRunning && s.rsc.runState.isTurning) = true ↔ stops := by
    simp [Timer.isRunning_iff, stops]
  have hdrained : (s.rsc.drainTimer.isRunning && s.rsc.runState == .stopping) = true ↔ drained := by
    simp [Timer.isRunning_iff, drained]
  unfold State.startLimitExpiry State.spinUpExpiry State.interlockExpiry State.drainExpiry
  refine ⟨fun h => ?_, fun h => ?_, fun h => ?_, fun h => ?_, fun h => ?_, fun h => ?_, fun h => ?_, fun h => ?_⟩
  · rw [if_neg fun hc => h (hwaiting.1 hc)]
  · have hr : s.rsc.runState = .starting := h.2.1
    have hlbi : s.lbi.onRunState s.rsc.runState .ready = s.lbi := by simp [Lbi.onRunState, hr]
    rw [if_pos (hwaiting.2 h),
      State.changeRun_outside (by simp [hr]) (by simp [hr]) (by rw [hr]; rfl) (by simp) (by simp) rfl, hlbi]
    rfl
  · rw [if_neg fun hc => h (hspinning.1 hc)]
  · rw [if_pos (hspinning.2 h)]
  · rw [if_neg fun hc => h (hstops.1 hc)]
  · rw [if_pos (hstops.2 h), State.leaveGroup_eq (RunState.inGroup_of_isTurning h.2), if_pos h.2]
    rfl
  · rw [if_neg fun hc => h (hdrained.1 hc)]
  · have hr : s.rsc.runState = .stopping := h.2
    rw [if_pos (hdrained.2 h), State.leaveGroup_eq (by rw [hr]; rfl), if_neg (by rw [hr]; decide)]

end Sys2Proof.Machine

/-! PROOFS. Scale pulses, edges, and the timers of the move engine and of the calibration and wear unit
(chapters 3, 5, 7 and 8). -/

namespace Sys2Proof.Machine

/-! ### Scale pulses -/

theorem Mfe.pulse_eq (m : Mfe) :
    m.pulse =
      { m with
        pulses := min 65535 (m.pulses + 1)
        pulseTimer := .running 0
        watchdog := if m.source = .scale then 0 else m.watchdog } := by
  unfold Mfe.pulse
  rw [satNat_eq_min]
  cases m.source <;> rfl

theorem State.scalePulse_of_refused {s : State}
    (h : s.rsc.runState = .offline ∨ s.cfg.image.watchesScale = false ∨ s.mfe.acceptsPulse = false) :
    s.scalePulse = s := by
  rcases s.scalePulse_cases with ⟨ho, hw, ha, -⟩ | ⟨-, e⟩
  · rcases h with h | h | h
    · exact absurd h ho
    · rw [h] at hw; cases hw
    · rw [h] at ha; cases ha
  · exact e

theorem State.scalePulse_of_accepted {s : State} (ho : s.rsc.runState ≠ .offline)
    (hw : s.cfg.image.watchesScale = true) (ha : s.mfe.acceptsPulse = true) :
    s.scalePulse = { s with mfe := s.mfe.pulse } := by
  rcases s.scalePulse_cases with ⟨-, -, -, e⟩ | ⟨h, -⟩
  · exact e
  · rcases h with h | h | h
    · exact absurd h ho
    · rw [h] at hw; cases hw
    · rw [h] at ha; cases ha

/-! ### Edges -/

theorem State.watchesTramp_iff (s : State) :
    s.watchesTramp = true ↔ s.rsc.runState ≠ .offline ∧ s.cfg.image.role = .crusher := by
  simp [State.watchesTramp]

theorem State.watchesFeedback_iff (s : State) :
    s.watchesFeedback = true ↔ s.rsc.runState ≠ .offline ∧ s.cfg.image.noFeedback = false := by
  simp [State.watchesFeedback]

/-- What an active edge of TRAMP does in the running group. -/
theorem State.trampAct_of_inGroup {s : State} (hg : s.rsc.runState.inGroup = true) :
    s.trampAct =
      if s.cwu.attempts = 0 then
        if s.cfg.image.headTramp.slot ≠ 0 then s.startClearing else s.trip .trampUncleared
      else s.request .tramp := by
  refine (if_pos hg).trans ?_
  exact if_congr Iff.rfl (if_congr bne_iff_ne rfl rfl) rfl

/-- Settles O58, input by input. -/
theorem pulseAndEdges : Obligations.PulseAndEdges := by
  intro s hh off i relief fed apart
  rw [show exec .scalePulse s = .next s.scalePulse.drive from s.event_of_free _ hh,
    show exec .trampActiveEdge s = .next s.trampActive.drive from s.event_of_free _ hh,
    show exec .trampInactiveEdge s = .next s.trampInactive.drive from s.event_of_free _ hh,
    show exec .pullcordActiveEdge s = .next s.pullcordActive.drive from s.event_of_free _ hh,
    show exec .pullcordInactiveEdge s = .next s.pullcordInactive.drive from s.event_of_free _ hh,
    show exec .runFbActiveEdge s = .next s.runFbActive.drive from s.event_of_free _ hh,
    show exec .runFbInactiveEdge s = .next s.runFbInactive.drive from s.event_of_free _ hh]
  have hscale : s.cfg.image.watchesScale = true ↔ i.role ≠ .bin ∧ i.w ≠ 0 := Image.watchesScale_iff _
  have hapart : s.mfe.acceptsPulse = true ↔ apart := s.mfe.acceptsPulse_iff
  have htramp := s.watchesTramp_iff
  have hfeed := s.watchesFeedback_iff
  refine ⟨fun h => ?_, fun ho hb hw ha => ?_, fun h => ?_, fun ho hr => ⟨?_, fun hg => ?_, fun hg => ?_⟩,
    fun r => ⟨fun h => ?_, fun hg hp => State.request_of_new hg hp⟩, fun h => ?_, fun h => ?_, fun h => ?_,
    fun ho hf => ?_⟩
  · rw [State.scalePulse_of_refused ?_]
    rcases h with h | h | h | h
    · exact .inl h
    · exact .inr (.inl (Bool.eq_false_iff.2 fun hc => (hscale.1 hc).1 h))
    · exact .inr (.inl (Bool.eq_false_iff.2 fun hc => (hscale.1 hc).2 h))
    · exact .inr (.inr (Bool.eq_false_iff.2 fun hc => h (hapart.1 hc)))
  · rw [State.scalePulse_of_accepted ho (hscale.2 ⟨hb, hw⟩) (hapart.2 ha), Mfe.pulse_eq]
  · have hn : ¬ s.watchesTramp = true := fun hc => h.elim (htramp.1 hc).1 fun hr => hr (htramp.1 hc).2
    rw [show s.trampActive = s from if_neg hn, show s.trampInactive = s from if_neg hn]
    exact ⟨rfl, rfl⟩
  · rw [show s.trampInactive = _ from if_pos (htramp.2 ⟨ho, hr⟩)]
  · rw [show s.trampActive = relief.trampAct from if_pos (htramp.2 ⟨ho, hr⟩),
      show relief.trampAct = relief from if_neg (Bool.eq_false_iff.1 hg)]
  · rw [show s.trampActive = relief.trampAct from if_pos (htramp.2 ⟨ho, hr⟩),
      State.trampAct_of_inGroup (s := relief) hg]
    refine ⟨fun ha hc => ?_, fun ha hc => ?_, fun ha => ?_⟩
    · rw [if_pos ha, if_neg (not_not.2 hc)]
    · rw [if_pos ha, if_pos hc]
      rfl
    · rw [if_neg ha]
  · refine if_neg fun hc => ?_
    obtain ⟨hg, hn⟩ := (Bool.and_eq_true _ _).mp hc
    rcases h with h | h
    · rw [h] at hg; cases hg
    · rw [h] at hn; cases hn
  · rw [show s.pullcordActive = s from if_neg fun hc => bne_iff_ne.1 hc h,
      show s.pullcordInactive = s from if_neg fun hc => bne_iff_ne.1 hc h]
    exact ⟨rfl, rfl⟩
  · rw [show s.pullcordActive = _ from if_pos (bne_iff_ne.2 h),
      show s.pullcordInactive = _ from if_pos (bne_iff_ne.2 h)]
    exact ⟨rfl, rfl⟩
  · have hn : ¬ s.watchesFeedback = true := fun hc =>
      h.elim (hfeed.1 hc).1 fun hf => by rw [(hfeed.1 hc).2] at hf; cases hf
    rw [show s.runFbActive = s from if_neg hn, show s.runFbInactive = s from if_neg hn]
    exact ⟨rfl, rfl⟩
  · have hspin : (fed.rsc.runState == .starting && fed.rsc.subPhase == some .spinUp) = true ↔
        s.rsc.runState = .starting ∧ s.rsc.subPhase = some .spinUp := by
      rw [Bool.and_eq_true, beq_iff_eq, beq_iff_eq]
    rw [show s.runFbActive = if (fed.rsc.runState == .starting && fed.rsc.subPhase == some .spinUp) = true then
        fed.enterGroup else fed from if_pos (hfeed.2 ⟨ho, hf⟩),
      show s.runFbInactive = _ from if_pos (hfeed.2 ⟨ho, hf⟩)]
    refine ⟨fun hr hp => ?_, fun h => ?_, fun hg => ?_, fun hg => ?_⟩
    · rw [if_pos (hspin.2 ⟨hr, hp⟩)]
    · rw [if_neg fun hc => h.elim (fun hn => hn (hspin.1 hc).1) fun hn => hn (hspin.1 hc).2]
    · exact congrArg (fun t => Host.Outcome.next (State.drive t)) (if_pos hg)
    · exact congrArg (fun t => Host.Outcome.next (State.drive t)) (if_neg (Bool.eq_false_iff.1 hg))

/-! ### The timers of the move engine -/

theorem State.settleExpired_of_active {s : State} {c : Context} (h : s.mve.active = some c) :
    s.settleExpired = if c.phase = .settle then (s.fault .feedNotStopped).syncHold else s := by
  unfold State.settleExpired
  rw [h]
  exact if_congr beq_iff_eq rfl rfl

theorem State.recordExpired_of_driving {s : State} {c : Context} (h : s.mve.active = some c)
    (hp : (∃ d, c.phase = .drive d) ∨ ∃ n, c.phase = .verify n) :
    s.recordExpired = (s.fault c.timeoutStatus).syncHold := by
  unfold State.recordExpired
  rcases hp with ⟨d, hp⟩ | ⟨n, hp⟩ <;> simp only [h, hp]

theorem State.recordExpired_of_other {s : State} {c : Context} (h : s.mve.active = some c)
    (hp : c.phase = .load ∨ c.phase = .settle ∨ c.phase = .done ∨ c.phase = .running) :
    s.recordExpired = s := by
  unfold State.recordExpired
  rcases hp with hp | hp | hp | hp <;> simp only [h, hp]

theorem State.remainingExpired_of_active {s : State} {c : Context} (h : s.mve.active = some c) :
    s.remainingExpired = if c.phase = .running then (s.complete c).syncHold else s := by
  unfold State.remainingExpired
  rw [h]
  exact if_congr beq_iff_eq rfl rfl

/-! ### Minutes and hours -/

theorem Cwu.minuteTick_eq (c : Cwu) :
    c.minuteTick =
      { c with
        sinceCal := min 65535 (c.sinceCal + 1)
        minutes := if c.minutes = 59 then 0 else c.minutes + 1
        hours := if c.minutes = 59 then min 65535 (c.hours + 1) else c.hours } := by
  unfold Cwu.minuteTick
  simp only [satNat_eq_min]
  by_cases h : c.minutes = 59
  · rw [if_pos (by omega), if_pos h, if_pos h]
  · rw [if_neg (by omega), if_neg h, if_neg h]

/-- The state after a minute, before the calibration interval is looked at. -/
def State.minuteOver (s : State) : State :=
  { s with cwu := Cwu.minuteTick { s.cwu with secondsTimer := .running 0, seconds := 0 } }

theorem State.secondsExpiry_of_minute {s : State} (h : s.cwu.secondsTimer ≠ .stopped) (hs : s.cwu.seconds = 59) :
    s.secondsExpiry =
      if s.cwu.sinceCal + 1 = s.cfg.image.calInterval then s.minuteOver.calibrationDue else s.minuteOver :=
  (if_pos ((Timer.isRunning_iff _).2 h)).trans (if_pos (by omega))

theorem State.secondsExpiry_of_second {s : State} (h : s.cwu.secondsTimer ≠ .stopped) (hs : s.cwu.seconds ≠ 59) :
    s.secondsExpiry =
      { s with cwu := { s.cwu with secondsTimer := .running 0, seconds := s.cwu.seconds + 1 } } :=
  (if_pos ((Timer.isRunning_iff _).2 h)).trans (if_neg (by omega))

theorem State.scheduleAllowed_iff (s : State) :
    s.scheduleAllowed = true ↔ s.cfg.image.headSchedule.slot ≠ 0 ∧ s.cwu.suspended = false := by
  simp [State.scheduleAllowed, Image.hasChain, Image.head]

/-- Settles O60, timer by timer. -/
theorem moveAndWearTimersExpire : Obligations.MoveAndWearTimersExpire := by
  intro s hh
  have hstopped : ∀ {t : Timer}, t = .stopped → ¬ t.isRunning = true :=
    fun h hc => (Timer.isRunning_iff _).1 hc h
  have hsettle : s.mve.settleTimer = .stopped → s.settleTimerExpiry = s := fun h => if_neg (hstopped h)
  have hrecord : s.mve.recordTimer = .stopped → s.recordTimerExpiry = s := fun h => if_neg (hstopped h)
  rw [show exec .settleTimerExpiry s = .next s.settleTimerExpiry.drive from s.event_of_free _ hh,
    show exec .recordTimerExpiry s = .next s.recordTimerExpiry.drive from s.event_of_free _ hh,
    show exec .remainingTimeExpiry s = .next s.remainingExpired.drive from s.event_of_free _ hh,
    show exec .secondsTimerExpiry s = .next s.secondsExpiry.drive from s.event_of_free _ hh]
  refine ⟨fun c hc => ⟨fun ht hp => ?_, fun h => ?_, fun ht => ?_, fun ht => ⟨fun hp => ?_, fun hp => ?_⟩,
    fun hp => ?_, fun hp => ?_⟩, fun ha => ⟨?_, ?_, ?_⟩, fun ht => ?_, fun ht => ?_⟩
  · rw [show s.settleTimerExpiry = s.settleExpired from if_pos ((Timer.isRunning_iff _).2 ht),
      State.settleExpired_of_active hc, if_pos hp]
  · by_cases ht : s.mve.settleTimer = .stopped
    · rw [hsettle ht]
    · rw [show s.settleTimerExpiry = s.settleExpired from if_pos ((Timer.isRunning_iff _).2 ht),
        State.settleExpired_of_active hc, if_neg (h.resolve_left ht)]
  · rw [hrecord ht]
  · rw [show s.recordTimerExpiry = s.recordExpired from if_pos ((Timer.isRunning_iff _).2 ht),
      State.recordExpired_of_driving hc hp]
    unfold Context.timeoutStatus
    exact ⟨fun target hw => by rw [hw], fun target hw => by rw [hw], fun hw => by rw [hw]⟩
  · rw [show s.recordTimerExpiry = s.recordExpired from if_pos ((Timer.isRunning_iff _).2 ht),
      State.recordExpired_of_other hc hp]
  · rw [State.remainingExpired_of_active hc, if_pos hp]
  · rw [State.remainingExpired_of_active hc, if_neg hp]
  · unfold State.settleTimerExpiry State.settleExpired
    rw [ha]
    dsimp only
    rw [ite_self]
  · unfold State.recordTimerExpiry State.recordExpired
    rw [ha]
    dsimp only
    rw [ite_self]
  · unfold State.remainingExpired
    rw [ha]
  · rw [show s.secondsExpiry = s from if_neg (hstopped ht)]
  · intro minute due
    have hminute : s.minuteOver = { s with cwu := minute } := by
      unfold State.minuteOver
      rw [Cwu.minuteTick_eq]
    have hdue : s.minuteOver.calibrationDue =
        if due.scheduleAllowed then due.request .schedule else due := by
      rw [hminute]
      rfl
    have hallowed : due.scheduleAllowed = true ↔
        s.cfg.image.headSchedule.slot ≠ 0 ∧ s.cwu.suspended = false := due.scheduleAllowed_iff
    refine ⟨fun hs => ?_, fun hs hi => ?_, fun hs hi => ⟨fun h => ?_, fun hc hs' => ?_⟩⟩
    · rw [State.secondsExpiry_of_second ht hs]
    · rw [State.secondsExpiry_of_minute ht hs, if_neg hi, hminute]
    · rw [State.secondsExpiry_of_minute ht hs, if_pos hi, hdue, if_neg ?_]
      intro hb
      obtain ⟨hslot, hsus⟩ := hallowed.1 hb
      rcases h with h | h
      · exact hslot h
      · rw [h] at hsus; cases hsus
    · rw [State.secondsExpiry_of_minute ht hs, if_pos hi, hdue, if_pos (hallowed.2 ⟨hc, hs'⟩)]

end Sys2Proof.Machine

/-! PROOFS. The contents of the station's own STATE telegram (R3, R4, R9, R167). -/

namespace Sys2Proof.Machine

/-! ### Codes of sets -/

theorem HoldSet.getLsbD_code (h : HoldSet) :
    h.code.getLsbD 0 = h.tramp ∧ h.code.getLsbD 1 = h.overload ∧
      h.code.getLsbD 2 = h.levelHigh ∧ h.code.getLsbD 3 = h.move ∧
      h.code.getLsbD 4 = h.moveFault ∧ h.code.getLsbD 5 = h.downstream ∧
      h.code.getLsbD 6 = h.ordered := by
  obtain ⟨tramp, overload, levelHigh, move, moveFault, downstream, ordered⟩ := h
  revert tramp overload levelHigh move moveFault downstream ordered
  decide

theorem RequestSet.getLsbD_code (r : RequestSet) :
    r.code.getLsbD 0 = r.tramp ∧ r.code.getLsbD 1 = r.overload ∧
      r.code.getLsbD 2 = r.orderGap ∧ r.code.getLsbD 3 = r.calibrate ∧
      r.code.getLsbD 4 = r.start ∧ r.code.getLsbD 5 = r.schedule := by
  obtain ⟨tramp, overload, orderGap, calibrate, start, schedule⟩ := r
  revert tramp overload orderGap calibrate start schedule
  decide

theorem RequestSet.isEmpty_iff (r : RequestSet) : r.isEmpty = true ↔ r = RequestSet.empty := by
  obtain ⟨tramp, overload, orderGap, calibrate, start, schedule⟩ := r
  simp [RequestSet.isEmpty, RequestSet.empty, and_assoc]

/-! ### The move summary -/

theorem stackCode_of_getElem? {stack : List Context} {i : Nat} {c : Context}
    (h : stack[i]? = some c) : stackCode stack i = c.requester.code := by
  unfold stackCode
  rw [h]

theorem stackCode_of_length_le {stack : List Context} {i : Nat} (h : stack.length ≤ i) :
    stackCode stack i = noRequester := by
  unfold stackCode
  rw [List.getElem?_eq_none h]

theorem Mve.hasStatus_iff (m : Mve) :
    m.hasStatus = true ↔
      m.active ≠ none ∨ m.stack ≠ [] ∨ m.parked ≠ none ∨ m.requests ≠ RequestSet.empty := by
  unfold Mve.hasStatus
  rw [Ne, Ne, Ne, Ne, ← RequestSet.isEmpty_iff]
  simp [Option.isSome_iff_ne_none, or_assoc]

theorem State.compose_summary_isSome (s : State) :
    s.compose.summary.isSome = s.mve.hasStatus := by
  change (if s.mve.hasStatus = true then some _ else none).isSome = _
  cases s.mve.hasStatus <;> rfl

theorem State.compose_summary_eq {s : State} {m : MoveSummary}
    (h : s.compose.summary = some m) :
    m =
      ⟨stackCode s.mve.stack 0, stackCode s.mve.stack 1, stackCode s.mve.stack 2,
        BitVec.ofNat 2 s.mve.stack.length, s.mve.requests.code⟩ := by
  have hs : s.mve.hasStatus = true := by
    rw [← s.compose_summary_isSome, h]
    rfl
  change (if s.mve.hasStatus = true then some _ else none) = some m at h
  rw [if_pos hs] at h
  exact (Option.some.inj h).symm

/-! ### The calibration report -/

theorem Cwu.reported_isSome (c : Cwu) : c.reported.isSome = true ↔ c.selection < c.ring.length := by
  simp [Cwu.reported]

theorem Cwu.reported_eq {c : Cwu} (h : c.selection < c.ring.length) :
    c.reported = c.ring[c.ring.length - 1 - c.selection]? :=
  List.getElem?_reverse h

theorem State.compose_report (s : State) :
    s.compose.report =
      if s.cfg.image.role = .crusher then
        s.cwu.reported.map fun r => r.report s.cwu.selection
      else none := by
  change (if (s.cfg.image.role == Role.crusher) = true then _ else _) = _
  simp only [beq_iff_eq]

theorem State.compose_report_isSome (s : State) :
    s.compose.report.isSome = true ↔
      s.cfg.image.role = .crusher ∧ s.cwu.selection < s.cwu.ring.length := by
  rw [s.compose_report, ← Cwu.reported_isSome]
  split
  next hr => simp [hr]
  next hr => simp [hr]

theorem State.compose_report_eq {s : State} {p : CalReport} {r : CalRecord}
    (hp : s.compose.report = some p)
    (hr : s.cwu.ring[s.cwu.ring.length - 1 - s.cwu.selection]? = some r) :
    p = r.report s.cwu.selection := by
  obtain ⟨hc, hsel⟩ := s.compose_report_isSome.1 (by rw [hp]; rfl)
  rw [s.compose_report, if_pos hc, Cwu.reported_eq hsel, hr] at hp
  exact (Option.some.inj hp).symm

/-! ### Fields under a condition -/

theorem State.compose_allowance (s : State) :
    s.compose.allowance =
      if s.rsc.runState = .running then BitVec.ofNat 16 s.ale.a else 0#16 := by
  change (if (s.rsc.runState == RunState.running) = true then _ else _) = _
  simp only [beq_iff_eq]

theorem State.compose_tripCause (s : State) :
    s.compose.tripCause =
      if s.rsc.runState = .tripped then s.rsc.tripCause.map TripCause.code else none := by
  change (if (s.rsc.runState == RunState.tripped) = true then _ else _) = _
  simp only [beq_iff_eq]

theorem State.compose_level (s : State) :
    s.compose.level =
      if s.cfg.image.role = .feeder then none else some (BitVec.ofNat 16 s.mfe.level) := by
  change (if (s.cfg.image.role != Role.feeder) = true then _ else _) = _
  cases s.cfg.image.role <;> rfl

theorem State.compose_gap (s : State) :
    s.compose.gap =
      if s.cfg.image.role = .crusher then
        some ⟨BitVec.ofNat 12 s.mfe.gap, s.mfe.gapValid, BitVec.ofNat 16 s.mve.gSet⟩
      else none := by
  change (if (s.cfg.image.role == Role.crusher) = true then _ else _) = _
  simp only [beq_iff_eq]

theorem State.compose_feed (s : State) :
    s.compose.feed =
      if s.cfg.image.role = .feeder then some (BitVec.ofNat 16 s.ale.u) else none := by
  change (if (s.cfg.image.role == Role.feeder) = true then _ else _) = _
  simp only [beq_iff_eq]

/-- Settles O23: each field of the composed contents is read off its owner; the summary, the report
and the codes of the two sets have lemmas of their own. -/
theorem contentsComeFromOwners : Obligations.ContentsComeFromOwners := by
  intro s
  have hsummary : s.compose.summary.isSome = true ↔
      s.mve.active ≠ none ∨ s.mve.stack ≠ [] ∨ s.mve.parked ≠ none ∨
        s.mve.requests ≠ RequestSet.empty := by
    rw [s.compose_summary_isSome]
    exact s.mve.hasStatus_iff
  refine ⟨rfl, rfl, rfl, rfl, rfl, rfl, rfl, rfl, fun h => s.compose_allowance.trans (if_pos h),
    fun h => s.compose_allowance.trans (if_neg h), rfl, rfl, rfl, s.compose_tripCause,
    s.compose_level, s.compose_gap, s.compose_feed, hsummary, ?_, rfl, rfl, rfl,
    s.compose_report_isSome, fun p r hp hr => State.compose_report_eq hp hr, rfl, rfl, rfl, rfl,
    rfl, fun _ _ => rfl, rfl, rfl, HoldSet.getLsbD_code, rfl, fun _ _ => rfl⟩
  intro m hm
  rw [State.compose_summary_eq hm]
  refine ⟨fun _ => stackCode_of_getElem?, fun _ => stackCode_of_getElem?,
    fun _ => stackCode_of_getElem?, stackCode_of_length_le, stackCode_of_length_le,
    stackCode_of_length_le, ?_, s.mve.requests.getLsbD_code⟩
  intro hlen
  rw [BitVec.toNat_ofNat]
  omega

end Sys2Proof.Machine

/-! PROOFS. Reading a telegram by offsets (R15, R203): each reader takes its bytes from the place it
stands at, and what the readers give together is what stands at the offsets of the layout. -/

namespace Sys2Proof

/-! ### Bytes and words at an offset -/

/-- The byte at an offset, 0 beyond the end. -/
def byteAt (bytes : List Byte) (k : Nat) : Byte := bytes.getD k 0#8

/-- The word at an offset, high byte first. -/
def wordAt (bytes : List Byte) (k : Nat) : BitVec 16 := byteAt bytes k ++ byteAt bytes (k + 1)

/-- The three bytes at an offset, highest first. -/
def tripleAt (bytes : List Byte) (k : Nat) : BitVec 24 :=
  byteAt bytes k ++ byteAt bytes (k + 1) ++ byteAt bytes (k + 2)

/-- The bytes from the offset `i` to before the offset `e`. -/
def slice (bytes : List Byte) (i e : Nat) : List Byte := (bytes.take e).drop i

theorem slice_eq_cons {bytes : List Byte} {i e : Nat} (hi : i < e) (he : e ≤ bytes.length) :
    slice bytes i e = byteAt bytes i :: slice bytes (i + 1) e := by
  have hlen : i < (bytes.take e).length := by
    rw [List.length_take]
    omega
  unfold slice byteAt
  rw [List.drop_eq_getElem_cons hlen, List.getElem_take, List.getD_eq_getElem _ _ (by omega)]

theorem slice_length {bytes : List Byte} {i e : Nat} (he : e ≤ bytes.length) :
    (slice bytes i e).length = e - i := by
  rw [slice, List.length_drop, List.length_take, Nat.min_eq_left he]

theorem slice_eq_nil_iff {bytes : List Byte} {i e : Nat} (hi : i ≤ e) (he : e ≤ bytes.length) :
    slice bytes i e = [] ↔ i = e := by
  rw [← List.length_eq_zero_iff, slice_length he]
  omega

/-! ### Readers -/

/-- From offset `i` of a text, `read` takes `n` bytes and gives `x`; where fewer bytes are left it
fails. -/
def ReadsAt {α : Type} (read : List Byte → Option (α × List Byte)) (n : Nat) (bytes : List Byte)
    (i : Nat) (x : α) : Prop :=
  ∀ e, i ≤ e → e ≤ bytes.length →
    read (slice bytes i e) = if i + n ≤ e then some (x, slice bytes (i + n) e) else none

section
variable {α β : Type} {bytes : List Byte} {i n : Nat} {x : α}

theorem ReadsAt.done : ReadsAt (fun bs => some (x, bs)) 0 bytes i x :=
  fun _ hi _ => (if_pos hi).symm

theorem ReadsAt.cons {read : List Byte → Option (α × List Byte)} (hnil : read [] = none)
    (hrest : ReadsAt (fun bs => read (byteAt bytes i :: bs)) n bytes (i + 1) x) :
    ReadsAt read (n + 1) bytes i x := by
  intro e hi he
  rcases Nat.lt_or_ge i e with hlt | hge
  · rw [slice_eq_cons hlt he, ← Nat.add_assoc, Nat.add_right_comm]
    exact hrest e hlt he
  · rw [(slice_eq_nil_iff hi he).2 (by omega), hnil, if_neg (by omega)]

theorem ReadsAt.field {read : List Byte → Option (α × List Byte)} (present : Bool)
    (h : ReadsAt read n bytes i x) :
    ReadsAt (readField present read) (if present then n else 0) bytes i
      (if present then some x else none) := by
  cases present with
  | false => exact fun _ hi _ => (if_pos hi).symm
  | true =>
    intro e hi he
    change (read (slice bytes i e)).map (fun r => (some r.1, r.2)) = _
    rw [h e hi he]
    simp only [if_true]
    split <;> rfl

end

theorem readByte_readsAt (bytes : List Byte) (i : Nat) :
    ReadsAt readByte 1 bytes i (byteAt bytes i) :=
  .cons rfl .done

theorem readWord_readsAt (bytes : List Byte) (i : Nat) :
    ReadsAt readWord 2 bytes i (wordAt bytes i) :=
  .cons rfl (.cons rfl .done)

theorem readTriple_readsAt (bytes : List Byte) (i : Nat) :
    ReadsAt readTriple 3 bytes i (tripleAt bytes i) :=
  .cons rfl (.cons rfl (.cons rfl .done))

/-! ### The optional fields of a STATE telegram at an offset (spec/12, section 12.2) -/

/-- The gap field at an offset. -/
def gapAt (bytes : List Byte) (i : Nat) : GapField where
  measured := (wordAt bytes i).extractLsb' 0 12
  valid := (wordAt bytes i).getLsbD 15
  target := wordAt bytes (i + 2)

/-- The move summary at an offset. -/
def summaryAt (bytes : List Byte) (i : Nat) : MoveSummary where
  bottom := (wordAt bytes i).extractLsb' 0 3
  middle := (wordAt bytes i).extractLsb' 3 3
  top := (wordAt bytes i).extractLsb' 6 3
  depth := (wordAt bytes i).extractLsb' 13 2
  requests := (byteAt bytes (i + 2)).extractLsb' 0 6

/-- The move active field at an offset. -/
def activeAt (bytes : List Byte) (i : Nat) : MoveActive where
  slot := byteAt bytes i
  requester := (byteAt bytes (i + 1)).extractLsb' 0 3
  phase := (byteAt bytes (i + 1)).extractLsb' 4 3

/-- The parked-fault field at an offset. -/
def parkedAt (bytes : List Byte) (i : Nat) : ParkedFault where
  slot := byteAt bytes i
  status := (byteAt bytes (i + 1)).extractLsb' 0 4
  requester := (byteAt bytes (i + 1)).extractLsb' 4 3
  mirror := (byteAt bytes (i + 1)).getLsbD 7

/-- The order echo field at an offset. -/
def echoAt (bytes : List Byte) (i : Nat) : EchoField where
  tag := byteAt bytes i
  kind := byteAt bytes (i + 1)
  result := byteAt bytes (i + 2)

/-- The calibration report field at an offset. -/
def reportAt (bytes : List Byte) (i : Nat) : CalReport where
  index := (byteAt bytes i).extractLsb' 0 3
  accepted := (byteAt bytes i).getLsbD 7
  number := wordAt bytes (i + 1)
  contact := wordAt bytes (i + 3)
  wear := wordAt bytes (i + 5)
  hours := wordAt bytes (i + 7)

theorem readGap_readsAt (bytes : List Byte) (i : Nat) :
    ReadsAt readGap 4 bytes i (gapAt bytes i) :=
  .cons rfl (.cons rfl (.cons rfl (.cons rfl .done)))

theorem readSummary_readsAt (bytes : List Byte) (i : Nat) :
    ReadsAt readSummary 3 bytes i (summaryAt bytes i) :=
  .cons rfl (.cons rfl (.cons rfl .done))

theorem readActive_readsAt (bytes : List Byte) (i : Nat) :
    ReadsAt readActive 2 bytes i (activeAt bytes i) :=
  .cons rfl (.cons rfl .done)

theorem readParked_readsAt (bytes : List Byte) (i : Nat) :
    ReadsAt readParked 2 bytes i (parkedAt bytes i) :=
  .cons rfl (.cons rfl .done)

theorem readEcho_readsAt (bytes : List Byte) (i : Nat) :
    ReadsAt readEcho 3 bytes i (echoAt bytes i) :=
  .cons rfl (.cons rfl (.cons rfl .done))

theorem readReport_readsAt (bytes : List Byte) (i : Nat) :
    ReadsAt readReport 9 bytes i (reportAt bytes i) :=
  .cons rfl (.cons rfl (.cons rfl (.cons rfl (.cons rfl (.cons rfl (.cons rfl (.cons rfl
    (.cons rfl .done))))))))

/-! ### A sequence of readers -/

/-- A parser that begins at offset `i` and has taken every byte when it stands at `j`: it gives `r` on
the bytes up to `j`, and fails when they end elsewhere. -/
def Parses {α : Type} (parse : List Byte → Option α) (bytes : List Byte) (i j : Nat)
    (r : Option α) : Prop :=
  i ≤ j ∧ ∀ e, i ≤ e → e ≤ bytes.length → parse (slice bytes i e) = if j = e then r else none

section
variable {α β : Type} {bytes : List Byte} {i j n : Nat} {x : α} {r : Option β}

theorem Parses.done {y : β} :
    Parses (fun bs => if bs != [] then none else some y) bytes i i (some y) := by
  refine ⟨Nat.le_refl i, fun e hi he => ?_⟩
  have h : (slice bytes i e != []) = true ↔ ¬ i = e := by
    rw [bne_iff_ne, Ne, slice_eq_nil_iff hi he]
  simp only [h, ite_not]

theorem Parses.read {read : List Byte → Option (α × List Byte)}
    {parse : α × List Byte → Option β} (h : ReadsAt read n bytes i x)
    (hp : Parses (fun bs => parse (x, bs)) bytes (i + n) j r) :
    Parses (fun bs => read bs >>= parse) bytes i j r := by
  obtain ⟨hj, hp⟩ := hp
  refine ⟨by omega, fun e hi he => ?_⟩
  change (read (slice bytes i e)).bind parse = _
  rw [h e hi he]
  split
  next hn => exact hp e hn he
  next hn => rw [if_neg (by omega)]; rfl

theorem Parses.guard {c : Bool} {parse : List Byte → Option β} (h : Parses parse bytes i j r) :
    Parses (fun bs => if c then none else parse bs) bytes i j (if c then none else r) := by
  cases c with
  | true => exact ⟨h.1, fun _ _ _ => (ite_self none).symm⟩
  | false => exact h

end

/-- The sizes of the optional fields, in the order of their mask bits. -/
def fieldSizes : List Nat := [1, 2, 4, 2, 3, 2, 2, 3, 9]

/-- The bytes that an optional field takes under a mask. -/
def fieldSize (mask : BitVec 16) (k : Nat) : Nat :=
  if mask.getLsbD k then fieldSizes.getD k 0 else 0

/-- The offset of an optional field under a mask: after the present ones before it. -/
def fieldPlace (mask : BitVec 16) : Nat → Nat
  | 0 => 17
  | k + 1 => fieldPlace mask k + fieldSize mask k

theorem fieldPlace_eq_sum (mask : BitVec 16) (k : Nat) :
    fieldPlace mask k = 17 + ((List.range k).map (fieldSize mask)).sum := by
  induction k with
  | zero => rfl
  | succ k ih =>
    rw [fieldPlace, ih, List.range_succ, List.map_append, List.sum_append, Nat.add_assoc]
    rfl

/-- An optional field at its offset, when its mask bit is set. -/
def fieldAt {α : Type} (read : List Byte → Nat → α) (bytes : List Byte) (k : Nat) : Option α :=
  if (wordAt bytes 3).getLsbD k then some (read bytes (fieldPlace (wordAt bytes 3) k)) else none

/-- The contents that stand at the offsets of a STATE telegram. -/
def stateAt (bytes : List Byte) : StateTelegram where
  source := byteAt bytes 5
  runState := (byteAt bytes 6).extractLsb' 0 3
  role := (byteAt bytes 6).extractLsb' 6 2
  position := (byteAt bytes 7).extractLsb' 0 4
  branch := (byteAt bytes 7).extractLsb' 4 2
  terminal := (byteAt bytes 7).getLsbD 7
  hold := (byteAt bytes 8).extractLsb' 0 7
  allowance := wordAt bytes 9
  throughput := (wordAt bytes 11).extractLsb' 0 12
  estimated := (wordAt bytes 11).getLsbD 15
  limiting := byteAt bytes 13
  events := (tripleAt bytes 14).extractLsb' 0 20
  tripCause := fieldAt byteAt bytes 0
  level := fieldAt wordAt bytes 1
  gap := fieldAt gapAt bytes 2
  feed := fieldAt wordAt bytes 3
  summary := fieldAt summaryAt bytes 4
  active := fieldAt activeAt bytes 5
  parked := fieldAt parkedAt bytes 6
  echo := fieldAt echoAt bytes 7
  report := fieldAt reportAt bytes 8

theorem readState_parses (bytes : List Byte) :
    Parses readState bytes 3 (fieldPlace (wordAt bytes 3) 9)
      (if (wordAt bytes 3).extractLsb' 9 7 != 0#7 then none else some (stateAt bytes)) :=
  .read (readWord_readsAt _ _) <| .guard <|
  .read (readByte_readsAt _ _) <| .read (readByte_readsAt _ _) <|
  .read (readByte_readsAt _ _) <| .read (readByte_readsAt _ _) <|
  .read (readWord_readsAt _ _) <| .read (readWord_readsAt _ _) <|
  .read (readByte_readsAt _ _) <| .read (readTriple_readsAt _ _) <|
  .read ((readByte_readsAt _ _).field _) <| .read ((readWord_readsAt _ _).field _) <|
  .read ((readGap_readsAt _ _).field _) <| .read ((readWord_readsAt _ _).field _) <|
  .read ((readSummary_readsAt _ _).field _) <| .read ((readActive_readsAt _ _).field _) <|
  .read ((readParked_readsAt _ _).field _) <| .read ((readEcho_readsAt _ _).field _) <|
  .read ((readReport_readsAt _ _).field _) .done

end Sys2Proof

/-! PROOFS. What a valid telegram is (R2, R15, R203): `decodeTelegram` by the framing, the kind and the
contents that stand at the offsets of the layout. -/

namespace Sys2Proof

/-- The contents that stand at the offsets of an ORDER telegram. -/
def orderAt (bytes : List Byte) : OrderTelegram where
  head := ⟨byteAt bytes 4, byteAt bytes 5, byteAt bytes 6⟩
  kind := byteAt bytes 7
  arg := if (byteAt bytes 3).getLsbD 0 then some (tripleAt bytes 8) else none

theorem readOrder_parses (bytes : List Byte) :
    Parses readOrder bytes 3 (8 + if (byteAt bytes 3).getLsbD 0 then 3 else 0)
      (if (byteAt bytes 3).extractLsb' 1 7 != 0#7 then none else some (orderAt bytes)) :=
  .read (readByte_readsAt _ _) <| .guard <|
  .read (readByte_readsAt _ _) <| .read (readByte_readsAt _ _) <|
  .read (readByte_readsAt _ _) <| .read (readByte_readsAt _ _) <|
  .read ((readTriple_readsAt _ _).field _) .done

/-- The checks on every telegram: the delimiter, its own length, and the CRC over the bytes between
(R15). -/
def Framed (bytes : List Byte) : Prop :=
  bytes.head? = some delimiter ∧ (byteAt bytes 1).toNat = bytes.length ∧
    bytes.drop (bytes.length - 2) = wordBytes (crcOf ((bytes.take (bytes.length - 2)).drop 1))

/-- The contents by the kind byte, from the fields before the CRC. -/
def contentsOf (bytes : List Byte) : Option Telegram :=
  let fields := slice bytes 3 (bytes.length - 2)
  if byteAt bytes 2 == 1#8 then (readState fields).map Telegram.state
  else if byteAt bytes 2 == 2#8 then (readOrder fields).map Telegram.order
  else none

theorem decodeTelegram_of_short {bytes : List Byte} (h : bytes.length < 5) :
    decodeTelegram bytes = none := by
  match bytes, h with
  | [], _ => rfl
  | [_], _ => rfl
  | [_, _], _ => exact ite_self none
  | [_, _, _], _ => exact ite_self none
  | [_, _, _, _], _ => exact ite_self none

theorem decodeTelegram_eq_some_iff {bytes : List Byte} {x : Telegram} :
    decodeTelegram bytes = some x ↔
      5 ≤ bytes.length ∧ Framed bytes ∧ contentsOf bytes = some x := by
  rcases Nat.lt_or_ge bytes.length 5 with h | h
  · rw [decodeTelegram_of_short h]
    constructor
    · intro h'
      cases h'
    · rintro ⟨h', -⟩
      omega
  · match bytes, h with
    | first :: len :: kind :: a :: b :: rest, h =>
      let bytes := first :: len :: kind :: a :: b :: rest
      have heq : decodeTelegram bytes =
          if (first == delimiter && len.toNat == bytes.length &&
              bytes.drop (bytes.length - 2) ==
                wordBytes (crcOf ((bytes.take (bytes.length - 2)).drop 1))) = true then
            contentsOf bytes
          else none := rfl
      rw [heq, ite_eq_iff]
      simp [Framed, bytes, and_assoc, byteAt]

/-- What a parser with a guard gives on the bytes before the CRC. -/
theorem Parses.eq_some_iff {α : Type} {parse : List Byte → Option α} {bytes : List Byte} {j : Nat}
    {n : Nat} {m : BitVec n} {x y : α}
    (hp : Parses parse bytes 3 j (if m != 0#n then none else some y)) (h : 5 ≤ bytes.length) :
    parse (slice bytes 3 (bytes.length - 2)) = some x ↔
      m = 0#n ∧ bytes.length = j + 2 ∧ x = y := by
  obtain ⟨hj, hp⟩ := hp
  rw [hp _ (by omega) (Nat.sub_le _ _)]
  have hend : j = bytes.length - 2 ↔ bytes.length = j + 2 := by omega
  by_cases hm : m = 0#n
  · simp [hm, hend, eq_comm]
  · simp [hm]

theorem contentsOf_eq_state_iff {bytes : List Byte} {t : StateTelegram} (h : 5 ≤ bytes.length) :
    contentsOf bytes = some (.state t) ↔
      byteAt bytes 2 = 1#8 ∧ (wordAt bytes 3).extractLsb' 9 7 = 0#7 ∧
        bytes.length = fieldPlace (wordAt bytes 3) 9 + 2 ∧ t = stateAt bytes := by
  rw [← (readState_parses bytes).eq_some_iff h]
  unfold contentsOf
  by_cases hkind : byteAt bytes 2 = 1#8
  · simp [hkind]
  · simp [hkind]

theorem contentsOf_eq_order_iff {bytes : List Byte} {o : OrderTelegram} (h : 5 ≤ bytes.length) :
    contentsOf bytes = some (.order o) ↔
      byteAt bytes 2 = 2#8 ∧ (byteAt bytes 3).extractLsb' 1 7 = 0#7 ∧
        bytes.length = 8 + (if (byteAt bytes 3).getLsbD 0 then 3 else 0) + 2 ∧
        o = orderAt bytes := by
  rw [← (readOrder_parses bytes).eq_some_iff h]
  unfold contentsOf
  by_cases hkind : byteAt bytes 2 = 1#8
  · simp [hkind]
  · simp [hkind]

theorem fieldPlace_ge (mask : BitVec 16) (k : Nat) : 17 ≤ fieldPlace mask k :=
  fieldPlace_eq_sum mask k ▸ Nat.le_add_right _ _

theorem decodeTelegram_eq_state_iff {bytes : List Byte} {t : StateTelegram} :
    decodeTelegram bytes = some (.state t) ↔
      Framed bytes ∧ byteAt bytes 2 = 1#8 ∧ (wordAt bytes 3).extractLsb' 9 7 = 0#7 ∧
        bytes.length = fieldPlace (wordAt bytes 3) 9 + 2 ∧ t = stateAt bytes := by
  rw [decodeTelegram_eq_some_iff]
  constructor
  · rintro ⟨hlen, hframed, h⟩
    exact ⟨hframed, (contentsOf_eq_state_iff hlen).1 h⟩
  · rintro ⟨hframed, h⟩
    have hplace := fieldPlace_ge (wordAt bytes 3) 9
    have hlen : 5 ≤ bytes.length := by omega
    exact ⟨hlen, hframed, (contentsOf_eq_state_iff hlen).2 h⟩

theorem decodeTelegram_eq_order_iff {bytes : List Byte} {o : OrderTelegram} :
    decodeTelegram bytes = some (.order o) ↔
      Framed bytes ∧ byteAt bytes 2 = 2#8 ∧ (byteAt bytes 3).extractLsb' 1 7 = 0#7 ∧
        bytes.length = 8 + (if (byteAt bytes 3).getLsbD 0 then 3 else 0) + 2 ∧
        o = orderAt bytes := by
  rw [decodeTelegram_eq_some_iff]
  constructor
  · rintro ⟨hlen, hframed, h⟩
    exact ⟨hframed, (contentsOf_eq_order_iff hlen).1 h⟩
  · rintro ⟨hframed, h⟩
    have hlen : 5 ≤ bytes.length := by omega
    exact ⟨hlen, hframed, (contentsOf_eq_order_iff hlen).2 h⟩

/-! ### Encoded telegrams are framed -/

theorem frame_length (body : List Byte) : (frame body).length = body.length + 4 := by
  simp [frame, wordBytes]

theorem frame_framed {body : List Byte} (h : body.length < 252) : Framed (frame body) := by
  refine ⟨rfl, ?_, ?_⟩
  · rw [frame_length]
    exact Nat.mod_eq_of_lt (by omega)
  · rw [frame_length]
    have hlen : (delimiter :: BitVec.ofNat 8 (body.length + 4) :: body).length =
        body.length + 4 - 2 := rfl
    unfold frame
    simp [← hlen]

/-! ### The CRC (R2) -/

/-- One bit of a byte into the CRC register. -/
def crcBit (c : BitVec 16) (bit : Bool) : BitVec 16 :=
  if c.msb != bit then (c <<< 1) ^^^ 0x1021#16 else c <<< 1

/-- A shift takes the top bit of `x` into the register and leaves the bits below it for later. -/
theorem crcShift_xor (c x : BitVec 16) : crcShift (c ^^^ x) = crcBit c x.msb ^^^ x <<< 1 := by
  unfold crcShift crcBit
  rw [BitVec.msb_xor, BitVec.shiftLeft_xor_distrib]
  change (if (c.msb ^^ x.msb) = true then _ else _) = (if (c.msb ^^ x.msb) = true then _ else _) ^^^ _
  split
  next => rw [BitVec.xor_assoc, BitVec.xor_assoc, BitVec.xor_comm (x <<< 1)]
  next => rfl

theorem crcShift_iterate_xor (c x : BitVec 16) (n : Nat) :
    crcShift^[n] (c ^^^ x) =
      (List.range n).foldl (fun c k => crcBit c (x <<< k).msb) c ^^^ x <<< n := by
  induction n with
  | zero => simp
  | succ n ih =>
    rw [Function.iterate_succ_apply', ih, crcShift_xor, List.range_succ, List.foldl_append,
      ← BitVec.shiftLeft_add]
    rfl

theorem msb_byte_shiftLeft (b : Byte) {k : Nat} (h : k < 8) :
    ((b ++ 0#8 : BitVec 16) <<< k).msb = b.getLsbD (7 - k) := by
  have hk : 16 - 1 - k = 7 - k + 8 := by omega
  have hge : ¬ 16 - 1 < k := by omega
  rw [BitVec.msb_eq_getLsbD_last, BitVec.getLsbD_shiftLeft, hk, BitVec.getLsbD_append,
    if_neg (by omega), Nat.add_sub_cancel]
  simp [hge]

theorem crcByte_eq_foldl_bits (c : BitVec 16) (b : Byte) :
    crcByte c b = (List.range 8).foldl (fun c k => crcBit c (b.getLsbD (7 - k))) c := by
  calc crcByte c b = crcShift^[8] (c ^^^ (b ++ 0#8)) := rfl
    _ = (List.range 8).foldl (fun c k => crcBit c ((b ++ 0#8 : BitVec 16) <<< k).msb) c ^^^
          (b ++ 0#8 : BitVec 16) <<< 8 := crcShift_iterate_xor _ _ _
    _ = (List.range 8).foldl (fun c k => crcBit c ((b ++ 0#8 : BitVec 16) <<< k).msb) c ^^^ 0#16 := by
      congr 1
      revert b
      decide
    _ = (List.range 8).foldl (fun c k => crcBit c (b.getLsbD (7 - k))) c := by
      rw [BitVec.xor_zero]
      refine List.foldl_ext _ _ _ fun c k hk => ?_
      rw [msb_byte_shiftLeft b (List.mem_range.1 hk)]

theorem crcOf_append (bytes : List Byte) (b : Byte) :
    crcOf (bytes ++ [b]) =
      (List.range 8).foldl (fun c k => crcBit c (b.getLsbD (7 - k))) (crcOf bytes) := by
  rw [← crcByte_eq_foldl_bits]
  exact List.foldl_append

end Sys2Proof

/-! PROOFS. The bytes of a telegram (R203): where each field of an encoded telegram stands, and that what
stands there is the field. -/

namespace Sys2Proof

/-! ### Bits of a concatenation -/

theorem getLsbD_append_skip {n m : Nat} (x : BitVec n) (y : BitVec m) (k : Nat) :
    (x ++ y).getLsbD (m + k) = x.getLsbD k := by
  rw [BitVec.getLsbD_append, if_neg (by omega), Nat.add_sub_cancel_left]

theorem getLsbD_append_low {n m : Nat} (x : BitVec n) (y : BitVec m) {k : Nat} (h : k < m) :
    (x ++ y).getLsbD k = y.getLsbD k := by
  rw [BitVec.getLsbD_append, if_pos h]

theorem extractLsb'_append_skip {n m : Nat} (x : BitVec n) (y : BitVec m) (k l : Nat) :
    (x ++ y).extractLsb' (m + k) l = x.extractLsb' k l := by
  ext i hi
  simp [BitVec.getLsbD_append, Nat.add_assoc]

theorem extractLsb'_extractLsb' {n : Nat} (x : BitVec n) (i j k : Nat) {l : Nat} (h : k + j ≤ l) :
    (x.extractLsb' i l).extractLsb' k j = x.extractLsb' (i + k) j := by
  ext b hb
  have hlt : k + b < l := by omega
  simp [hlt, Nat.add_assoc]

theorem getLsbD_ofBool_zero (b : Bool) : (BitVec.ofBool b).getLsbD 0 = b :=
  BitVec.getLsbD_ofBool b 0

/-- A word is its two bytes. -/
theorem append_wordBytes (w : BitVec 16) : w.extractLsb' 8 8 ++ w.extractLsb' 0 8 = w :=
  (BitVec.extractLsb'_append_extractLsb'_eq_extractLsb' (x := w) (start₁ := 0) rfl).trans
    BitVec.extractLsb'_eq_self

/-- Three bytes are their bytes. -/
theorem append_tripleBytes (w : BitVec 24) :
    w.extractLsb' 16 8 ++ w.extractLsb' 8 8 ++ w.extractLsb' 0 8 = w := by
  have hhigh : w.extractLsb' 16 8 ++ w.extractLsb' 8 8 = w.extractLsb' 8 16 :=
    BitVec.extractLsb'_append_extractLsb'_eq_extractLsb' rfl
  rw [hhigh]
  exact (BitVec.extractLsb'_append_extractLsb'_eq_extractLsb' (x := w) (start₁ := 0) rfl).trans
    BitVec.extractLsb'_eq_self

/-! ### Bytes after an offset -/

theorem byteAt_add {bytes l : List Byte} {i : Nat} (h : bytes.drop i = l) (j : Nat) :
    byteAt bytes (i + j) = byteAt l j := by
  rw [← h]
  simp [byteAt]

theorem wordAt_add {bytes l : List Byte} {i : Nat} (h : bytes.drop i = l) (j : Nat) :
    wordAt bytes (i + j) = wordAt l j := by
  have hlow : byteAt bytes (i + j + 1) = byteAt l (j + 1) := byteAt_add h (j + 1)
  unfold wordAt
  rw [byteAt_add h, hlow]

theorem tripleAt_add {bytes l : List Byte} {i : Nat} (h : bytes.drop i = l) (j : Nat) :
    tripleAt bytes (i + j) = tripleAt l j := by
  have hmiddle : byteAt bytes (i + j + 1) = byteAt l (j + 1) := byteAt_add h (j + 1)
  have hlow : byteAt bytes (i + j + 2) = byteAt l (j + 2) := byteAt_add h (j + 2)
  unfold tripleAt
  rw [byteAt_add h, hmiddle, hlow]

/-! ### Each field reads back from its bytes -/

/-- What `read` takes from an offset where the bytes of `x` stand is `x`. -/
def ReadsBack {α : Type} (read : List Byte → Nat → α) (bytes : α → List Byte) : Prop :=
  ∀ (x : α) (text : List Byte) (i : Nat) (post : List Byte), text.drop i = bytes x ++ post →
    read text i = x

theorem byteAt_readsBack : ReadsBack byteAt fun c => [c] :=
  fun _ _ _ _ h => byteAt_add h 0

theorem wordAt_readsBack : ReadsBack wordAt wordBytes :=
  fun w _ _ _ h => (wordAt_add h 0).trans (append_wordBytes w)

theorem tripleAt_readsBack : ReadsBack tripleAt tripleBytes :=
  fun w _ _ _ h => (tripleAt_add h 0).trans (append_tripleBytes w)

theorem gapAt_readsBack : ReadsBack gapAt GapField.bytes := by
  intro g text i post h
  have hword : wordAt text i = BitVec.ofBool g.valid ++ 0#3 ++ g.measured :=
    (wordAt_add h 0).trans (append_wordBytes _)
  have htarget : wordAt text (i + 2) = g.target := (wordAt_add h 2).trans (append_wordBytes _)
  unfold gapAt
  rw [hword, htarget]
  congr 1
  · exact BitVec.extractLsb'_append_eq_right
  · exact (getLsbD_append_skip _ _ 3).trans <|
      (getLsbD_append_skip _ _ 0).trans (getLsbD_ofBool_zero _)

theorem summaryAt_readsBack : ReadsBack summaryAt MoveSummary.bytes := by
  intro m text i post h
  have hword : wordAt text i = 0#1 ++ m.depth ++ 0#4 ++ m.top ++ m.middle ++ m.bottom :=
    (wordAt_add h 0).trans (append_wordBytes _)
  have hrequests : byteAt text (i + 2) = 0#2 ++ m.requests := byteAt_add h 2
  unfold summaryAt
  rw [hword, hrequests]
  congr 1
  · exact BitVec.extractLsb'_append_eq_right
  · exact (extractLsb'_append_skip _ _ 0 3).trans BitVec.extractLsb'_append_eq_right
  · exact (extractLsb'_append_skip _ _ 3 3).trans <|
      (extractLsb'_append_skip _ _ 0 3).trans BitVec.extractLsb'_append_eq_right
  · exact (extractLsb'_append_skip _ _ 10 2).trans <| (extractLsb'_append_skip _ _ 7 2).trans <|
      (extractLsb'_append_skip _ _ 4 2).trans <|
      (extractLsb'_append_skip _ _ 0 2).trans BitVec.extractLsb'_append_eq_right
  · exact BitVec.extractLsb'_append_eq_right

theorem activeAt_readsBack : ReadsBack activeAt MoveActive.bytes := by
  intro m text i post h
  have hslot : byteAt text i = m.slot := byteAt_add h 0
  have hstate : byteAt text (i + 1) = 0#1 ++ m.phase ++ 0#1 ++ m.requester := byteAt_add h 1
  unfold activeAt
  rw [hslot, hstate]
  congr 1
  · exact BitVec.extractLsb'_append_eq_right
  · exact (extractLsb'_append_skip _ _ 1 3).trans <|
      (extractLsb'_append_skip _ _ 0 3).trans BitVec.extractLsb'_append_eq_right

theorem parkedAt_readsBack : ReadsBack parkedAt ParkedFault.bytes := by
  intro p text i post h
  have hslot : byteAt text i = p.slot := byteAt_add h 0
  have hstate : byteAt text (i + 1) = BitVec.ofBool p.mirror ++ p.requester ++ p.status :=
    byteAt_add h 1
  unfold parkedAt
  rw [hslot, hstate]
  congr 1
  · exact BitVec.extractLsb'_append_eq_right
  · exact (extractLsb'_append_skip _ _ 0 3).trans BitVec.extractLsb'_append_eq_right
  · exact (getLsbD_append_skip _ _ 3).trans <|
      (getLsbD_append_skip _ _ 0).trans (getLsbD_ofBool_zero _)

theorem echoAt_readsBack : ReadsBack echoAt EchoField.bytes := by
  intro e text i post h
  have htag : byteAt text i = e.tag := byteAt_add h 0
  have hkind : byteAt text (i + 1) = e.kind := byteAt_add h 1
  have hresult : byteAt text (i + 2) = e.result := byteAt_add h 2
  unfold echoAt
  rw [htag, hkind, hresult]

theorem reportAt_readsBack : ReadsBack reportAt CalReport.bytes := by
  intro c text i post h
  have hindex : byteAt text i = BitVec.ofBool c.accepted ++ 0#4 ++ c.index := byteAt_add h 0
  have hnumber : wordAt text (i + 1) = c.number := (wordAt_add h 1).trans (append_wordBytes _)
  have hcontact : wordAt text (i + 3) = c.contact := (wordAt_add h 3).trans (append_wordBytes _)
  have hwear : wordAt text (i + 5) = c.wear := (wordAt_add h 5).trans (append_wordBytes _)
  have hhours : wordAt text (i + 7) = c.hours := (wordAt_add h 7).trans (append_wordBytes _)
  unfold reportAt
  rw [hindex, hnumber, hcontact, hwear, hhours]
  congr 1
  · exact BitVec.extractLsb'_append_eq_right
  · exact (getLsbD_append_skip _ _ 4).trans <|
      (getLsbD_append_skip _ _ 0).trans (getLsbD_ofBool_zero _)

/-! ### The layout of a STATE telegram -/

/-- A lowest bit put below the bits of `x` stands before them. -/
theorem getLsbD_append_ofBool {n : Nat} {x : BitVec n} {bits : List Bool} (b : Bool)
    (h : ∀ k, x.getLsbD k = bits.getD k false) (k : Nat) :
    (x ++ BitVec.ofBool b).getLsbD k = (b :: bits).getD k false := by
  cases k with
  | zero => exact (getLsbD_append_low x _ Nat.one_pos).trans (getLsbD_ofBool_zero b)
  | succ k =>
    have hskip : (x ++ BitVec.ofBool b).getLsbD (k + 1) = x.getLsbD k :=
      Nat.add_comm k 1 ▸ getLsbD_append_skip x (BitVec.ofBool b) k
    exact hskip.trans (h k)

/-- The presence of the optional fields, in the order of their mask bits. -/
def StateTelegram.presence (t : StateTelegram) : List Bool :=
  [t.tripCause.isSome, t.level.isSome, t.gap.isSome, t.feed.isSome, t.summary.isSome,
    t.active.isSome, t.parked.isSome, t.echo.isSome, t.report.isSome]

/-- The bytes of the optional fields, in the order of their mask bits. -/
def StateTelegram.fields (t : StateTelegram) : List (List Byte) :=
  [fieldBytes (fun c => [c]) t.tripCause, fieldBytes wordBytes t.level,
    fieldBytes GapField.bytes t.gap, fieldBytes wordBytes t.feed,
    fieldBytes MoveSummary.bytes t.summary, fieldBytes MoveActive.bytes t.active,
    fieldBytes ParkedFault.bytes t.parked, fieldBytes EchoField.bytes t.echo,
    fieldBytes CalReport.bytes t.report]

theorem StateTelegram.optionalBytes_eq_flatten (t : StateTelegram) :
    t.optionalBytes = t.fields.flatten := by
  simp [optionalBytes, fields]

theorem StateTelegram.getLsbD_mask (t : StateTelegram) :
    ∀ k, t.mask.getLsbD k = t.presence.getD k false :=
  getLsbD_append_ofBool _ <| getLsbD_append_ofBool _ <| getLsbD_append_ofBool _ <|
  getLsbD_append_ofBool _ <| getLsbD_append_ofBool _ <| getLsbD_append_ofBool _ <|
  getLsbD_append_ofBool _ <| getLsbD_append_ofBool _ <|
  getLsbD_append_ofBool (x := 0#7) (bits := []) _ fun _ => BitVec.getLsbD_zero

theorem StateTelegram.mask_unassigned (t : StateTelegram) : t.mask.extractLsb' 9 7 = 0#7 := by
  ext i hi
  have h : t.mask.getLsbD (9 + i) = false := by
    rw [t.getLsbD_mask, List.getD_eq_default _ _ (Nat.le_add_right 9 i)]
  simp [h]

theorem fieldBytes_length {α : Type} {bytes : α → List Byte} {n : Nat}
    (h : ∀ x, (bytes x).length = n) (o : Option α) :
    (fieldBytes bytes o).length = if o.isSome then n else 0 := by
  cases o with
  | none => rfl
  | some x => exact h x

/-- The bytes of each optional field are as many as the mask names. -/
theorem StateTelegram.fieldSizes_mask (t : StateTelegram) :
    (List.range 9).map (fieldSize t.mask) = t.fields.map List.length := by
  have hsize : ∀ k, fieldSize t.mask k = if t.presence.getD k false then fieldSizes.getD k 0 else 0 := by
    intro k
    rw [fieldSize, t.getLsbD_mask]
  have hsizes : (List.range 9).map (fieldSize t.mask) =
      (List.range 9).map fun k => if t.presence.getD k false then fieldSizes.getD k 0 else 0 :=
    List.map_congr_left fun k _ => hsize k
  rw [hsizes]
  simp only [StateTelegram.fields, List.map_cons, List.map_nil,
    fieldBytes_length (n := 1) (bytes := fun c : Byte => [c]) (fun _ => rfl),
    fieldBytes_length (n := 2) (bytes := wordBytes) (fun _ => rfl),
    fieldBytes_length (n := 4) (bytes := GapField.bytes) (fun _ => rfl),
    fieldBytes_length (n := 3) (bytes := MoveSummary.bytes) (fun _ => rfl),
    fieldBytes_length (n := 2) (bytes := MoveActive.bytes) (fun _ => rfl),
    fieldBytes_length (n := 2) (bytes := ParkedFault.bytes) (fun _ => rfl),
    fieldBytes_length (n := 3) (bytes := EchoField.bytes) (fun _ => rfl),
    fieldBytes_length (n := 9) (bytes := CalReport.bytes) (fun _ => rfl)]
  rfl

theorem StateTelegram.fieldPlace_mask (t : StateTelegram) {k : Nat} (hk : k ≤ 9) :
    fieldPlace t.mask k = 17 + ((t.fields.map List.length).take k).sum := by
  rw [fieldPlace_eq_sum, ← t.fieldSizes_mask, ← List.map_take, List.take_range, Nat.min_eq_left hk]

theorem StateTelegram.encode_drop (t : StateTelegram) :
    ∃ crc, t.encode.drop 17 = t.fields.flatten ++ crc := by
  let body := 1#8 :: (wordBytes t.mask ++ t.fixedBytes ++ t.optionalBytes)
  refine ⟨wordBytes (crcOf (BitVec.ofNat 8 (body.length + 4) :: body)), ?_⟩
  rw [← t.optionalBytes_eq_flatten]
  rfl

/-- An optional field stands at its place. -/
theorem StateTelegram.encode_drop_fieldPlace (t : StateTelegram) {k : Nat} (hk : k < 9) :
    ∃ post, t.encode.drop (fieldPlace t.mask k) = t.fields.getD k [] ++ post := by
  obtain ⟨crc, hcrc⟩ := t.encode_drop
  have hlen : k < t.fields.length := hk
  refine ⟨(t.fields.drop (k + 1)).flatten ++ crc, ?_⟩
  have hsplit : t.fields.flatten =
      (t.fields.take k).flatten ++ (t.fields.getD k [] ++ (t.fields.drop (k + 1)).flatten) := by
    rw [List.getD_eq_getElem _ _ hlen, ← List.flatten_cons, ← List.drop_eq_getElem_cons hlen,
      ← List.flatten_append, List.take_append_drop]
  have hsum : ((t.fields.map List.length).take k).sum = (t.fields.take k).flatten.length := by
    rw [List.length_flatten, List.map_take]
  rw [t.fieldPlace_mask (Nat.le_of_lt hk), ← List.drop_drop, hcrc, hsplit, hsum, List.append_assoc,
    List.drop_left, List.append_assoc]

theorem StateTelegram.encode_mask (t : StateTelegram) : wordAt t.encode 3 = t.mask :=
  append_wordBytes t.mask

/-- An optional field reads back from its place. -/
theorem StateTelegram.fieldAt_encode (t : StateTelegram) {α : Type} {read : List Byte → Nat → α}
    {bytes : α → List Byte} (h : ReadsBack read bytes) {k : Nat} (hk : k < 9) (o : Option α)
    (hfield : t.fields.getD k [] = fieldBytes bytes o)
    (hpresent : t.presence.getD k false = o.isSome) : fieldAt read t.encode k = o := by
  obtain ⟨post, hpost⟩ := t.encode_drop_fieldPlace hk
  unfold fieldAt
  rw [t.encode_mask, t.getLsbD_mask, hpresent]
  rw [hfield] at hpost
  cases o with
  | none => rfl
  | some x => exact congrArg some (h x _ _ post hpost)

/-- What stands at the offsets of an encoded STATE telegram is the telegram. -/
theorem StateTelegram.stateAt_encode (t : StateTelegram) : stateAt t.encode = t := by
  have hstates : byteAt t.encode 6 = t.role ++ 0#3 ++ t.runState := rfl
  have hplace : byteAt t.encode 7 = BitVec.ofBool t.terminal ++ 0#1 ++ t.branch ++ t.position := rfl
  have hhold : byteAt t.encode 8 = 0#1 ++ t.hold := rfl
  have hallowance : wordAt t.encode 9 = t.allowance := append_wordBytes _
  have hthroughput : wordAt t.encode 11 = BitVec.ofBool t.estimated ++ 0#3 ++ t.throughput :=
    append_wordBytes _
  have hevents : tripleAt t.encode 14 = 0#4 ++ t.events := append_tripleBytes _
  unfold stateAt
  rw [hstates, hplace, hhold, hallowance, hthroughput, hevents,
    t.fieldAt_encode byteAt_readsBack (by decide) t.tripCause rfl rfl,
    t.fieldAt_encode wordAt_readsBack (by decide) t.level rfl rfl,
    t.fieldAt_encode gapAt_readsBack (by decide) t.gap rfl rfl,
    t.fieldAt_encode wordAt_readsBack (by decide) t.feed rfl rfl,
    t.fieldAt_encode summaryAt_readsBack (by decide) t.summary rfl rfl,
    t.fieldAt_encode activeAt_readsBack (by decide) t.active rfl rfl,
    t.fieldAt_encode parkedAt_readsBack (by decide) t.parked rfl rfl,
    t.fieldAt_encode echoAt_readsBack (by decide) t.echo rfl rfl,
    t.fieldAt_encode reportAt_readsBack (by decide) t.report rfl rfl]
  congr 1
  · exact BitVec.extractLsb'_append_eq_right
  · exact (extractLsb'_append_skip _ _ 3 2).trans <|
      (extractLsb'_append_skip _ _ 0 2).trans BitVec.extractLsb'_eq_self
  · exact BitVec.extractLsb'_append_eq_right
  · exact (extractLsb'_append_skip _ _ 0 2).trans BitVec.extractLsb'_append_eq_right
  · exact (getLsbD_append_skip _ _ 3).trans <| (getLsbD_append_skip _ _ 1).trans <|
      (getLsbD_append_skip _ _ 0).trans (getLsbD_ofBool_zero _)
  · exact BitVec.extractLsb'_append_eq_right
  · exact BitVec.extractLsb'_append_eq_right
  · exact (getLsbD_append_skip _ _ 3).trans <|
      (getLsbD_append_skip _ _ 0).trans (getLsbD_ofBool_zero _)
  · exact BitVec.extractLsb'_append_eq_right

/-! ### An encoded STATE telegram is valid -/

theorem StateTelegram.fixedPart_length (t : StateTelegram) :
    (1#8 :: (wordBytes t.mask ++ t.fixedBytes ++ t.optionalBytes)).length =
      t.optionalBytes.length + 15 :=
  rfl

theorem StateTelegram.optionalBytes_length (t : StateTelegram) :
    t.optionalBytes.length + 17 = fieldPlace t.mask 9 := by
  have htake : (t.fields.map List.length).take 9 = t.fields.map List.length := rfl
  rw [t.fieldPlace_mask (Nat.le_refl 9), t.optionalBytes_eq_flatten, List.length_flatten, htake,
    Nat.add_comm]

theorem StateTelegram.encode_length (t : StateTelegram) :
    t.encode.length = fieldPlace t.mask 9 + 2 := by
  rw [encode, frame_length, t.fixedPart_length, ← t.optionalBytes_length]

theorem fieldSize_le (mask : BitVec 16) (k : Nat) : fieldSize mask k ≤ fieldSizes.getD k 0 := by
  unfold fieldSize
  split
  next => exact Nat.le_refl _
  next => exact Nat.zero_le _

theorem fieldPlace_le (mask : BitVec 16) : fieldPlace mask 9 ≤ 45 := by
  rw [fieldPlace_eq_sum]
  have h : ((List.range 9).map (fieldSize mask)).sum ≤
      ((List.range 9).map fun k => fieldSizes.getD k 0).sum :=
    List.sum_le_sum fun k _ => fieldSize_le mask k
  exact Nat.add_le_add_left h 17

theorem StateTelegram.encode_length_le (t : StateTelegram) : t.encode.length ≤ 47 := by
  rw [t.encode_length]
  exact Nat.add_le_add_right (fieldPlace_le t.mask) 2

theorem StateTelegram.encode_framed (t : StateTelegram) : Framed t.encode := by
  have hle := t.encode_length_le
  rw [encode, frame_length] at hle
  exact frame_framed (by omega)

theorem StateTelegram.decode_encode (t : StateTelegram) :
    decodeTelegram t.encode = some (.state t) := by
  rw [decodeTelegram_eq_state_iff, t.encode_mask]
  exact ⟨t.encode_framed, rfl, t.mask_unassigned, t.encode_length, t.stateAt_encode.symm⟩

/-! ### ORDER telegrams -/

theorem OrderTelegram.encode_drop (o : OrderTelegram) :
    ∃ crc, o.encode.drop 8 = fieldBytes tripleBytes o.arg ++ crc := by
  let body :=
    [2#8, 0#7 ++ BitVec.ofBool o.arg.isSome, o.head.source, o.head.target, o.head.tag, o.kind] ++
      fieldBytes tripleBytes o.arg
  exact ⟨wordBytes (crcOf (BitVec.ofNat 8 (body.length + 4) :: body)), rfl⟩

theorem OrderTelegram.encode_length (o : OrderTelegram) :
    o.encode.length = 8 + (if o.arg.isSome then 3 else 0) + 2 := by
  rw [encode, frame_length, List.length_append, fieldBytes_length (n := 3) (fun _ => rfl)]
  change 6 + _ + 4 = _
  omega

theorem OrderTelegram.encode_mask (o : OrderTelegram) :
    (byteAt o.encode 3).getLsbD 0 = o.arg.isSome :=
  (getLsbD_append_low _ _ Nat.one_pos).trans (getLsbD_ofBool_zero _)

theorem OrderTelegram.orderAt_encode (o : OrderTelegram) : orderAt o.encode = o := by
  obtain ⟨crc, hcrc⟩ := o.encode_drop
  have harg : (if (byteAt o.encode 3).getLsbD 0 then some (tripleAt o.encode 8) else none) = o.arg := by
    rw [o.encode_mask]
    cases harg : o.arg with
    | none => rfl
    | some x =>
      rw [harg] at hcrc
      exact congrArg some (tripleAt_readsBack x _ _ crc hcrc)
  unfold orderAt
  rw [harg]
  rfl

theorem OrderTelegram.decode_encode (o : OrderTelegram) :
    decodeTelegram o.encode = some (.order o) := by
  have hlen := o.encode_length
  have hframed : Framed o.encode := by
    rw [encode, frame_length] at hlen
    exact frame_framed (by split at hlen <;> omega)
  rw [decodeTelegram_eq_order_iff, o.encode_mask]
  exact ⟨hframed, rfl, (extractLsb'_append_skip _ _ 0 7).trans BitVec.extractLsb'_eq_self, hlen,
    o.orderAt_encode.symm⟩

end Sys2Proof

/-! PROOFS. The two obligations on telegrams: the round trip and the checks (R2, R15, R203). -/

namespace Sys2Proof

/-! ### The checks of a telegram -/

theorem fieldPlace_nine_eq (mask : BitVec 16) :
    fieldPlace mask 9 + 2 =
      19 +
        ((List.range 9).map fun k =>
          if mask.getLsbD k then [1, 2, 4, 2, 3, 2, 2, 3, 9].getD k 0 else 0).sum := by
  rw [fieldPlace_eq_sum, Nat.add_right_comm]
  rfl

theorem exists_decode_state_iff (bytes : List Byte) :
    (∃ t, decodeTelegram bytes = some (.state t)) ↔
      Framed bytes ∧ byteAt bytes 2 = 1#8 ∧ (wordAt bytes 3).extractLsb' 9 7 = 0#7 ∧
        bytes.length = fieldPlace (wordAt bytes 3) 9 + 2 := by
  simp only [decodeTelegram_eq_state_iff, exists_and_left, exists_eq, and_true]

theorem exists_decode_order_iff (bytes : List Byte) :
    (∃ o, decodeTelegram bytes = some (.order o)) ↔
      Framed bytes ∧ byteAt bytes 2 = 2#8 ∧ (byteAt bytes 3).extractLsb' 1 7 = 0#7 ∧
        bytes.length = if (byteAt bytes 3).getLsbD 0 then 13 else 10 := by
  have hlen : 8 + (if (byteAt bytes 3).getLsbD 0 then 3 else 0) + 2 =
      if (byteAt bytes 3).getLsbD 0 then 13 else 10 := by
    split <;> rfl
  simp only [decodeTelegram_eq_order_iff, hlen, exists_and_left, exists_eq, and_true]

/-! ### The places of the optional fields -/

theorem place_eq (bytes : List Byte) (k : Nat) :
    17 +
        ((List.range k).map fun j =>
          if (wordAt bytes 3).getLsbD j then [1, 2, 4, 2, 3, 2, 2, 3, 9].getD j 0 else 0).sum =
      fieldPlace (wordAt bytes 3) k :=
  (fieldPlace_eq_sum _ k).symm

theorem fieldAt_eq {α : Type} {read : List Byte → Nat → α} {bytes : List Byte} {k p : Nat}
    (hp : p = fieldPlace (wordAt bytes 3) k) :
    fieldAt read bytes k = if (wordAt bytes 3).getLsbD k then some (read bytes p) else none := by
  rw [hp, fieldAt]

theorem extractLsb'_append_last {n m : Nat} (x : BitVec n) (y : BitVec m) :
    (x ++ y).extractLsb' 0 m = y :=
  BitVec.extractLsb'_append_eq_right

/-- The bytes of a present optional field stand from its place on. -/
theorem byteAt_field (t : StateTelegram) {α : Type} {bytes : α → List Byte} {k p : Nat} (hk : k < 9)
    {o : Option α} {x : α} (hfield : t.fields.getD k [] = fieldBytes bytes o) (ho : o = some x)
    (hp : p = fieldPlace (wordAt t.encode 3) k) {j : Nat} (hj : j < (bytes x).length) :
    byteAt t.encode (p + j) = byteAt (bytes x) j := by
  obtain ⟨post, hpost⟩ := t.encode_drop_fieldPlace hk
  rw [hfield, ho] at hpost
  rw [hp, t.encode_mask, byteAt_add hpost]
  exact List.getD_append _ _ _ _ hj

/-! ### Unassigned bits of the optional fields -/

theorem GapField.unassigned (g : GapField) : (byteAt g.bytes 0).extractLsb' 4 3 = 0#3 :=
  (extractLsb'_extractLsb' _ 8 3 4 (by decide)).trans <|
    (extractLsb'_append_skip _ _ 0 3).trans (extractLsb'_append_last _ _)

theorem MoveSummary.unassigned (m : MoveSummary) :
    (byteAt m.bytes 0).getLsbD 7 = false ∧ (byteAt m.bytes 0).extractLsb' 1 4 = 0#4 ∧
      (byteAt m.bytes 2).extractLsb' 6 2 = 0#2 := by
  refine ⟨?_, ?_, ?_⟩
  · have h : (byteAt m.bytes 0).getLsbD 7 =
        (0#1 ++ m.depth ++ 0#4 ++ m.top ++ m.middle ++ m.bottom).getLsbD 15 :=
      BitVec.getLsbD_extractLsb' ..
    exact h.trans <| (getLsbD_append_skip _ _ 12).trans <| (getLsbD_append_skip _ _ 9).trans <|
      (getLsbD_append_skip _ _ 6).trans <| (getLsbD_append_skip _ _ 2).trans <|
      (getLsbD_append_skip _ _ 0).trans rfl
  · exact (extractLsb'_extractLsb' _ 8 4 1 (by decide)).trans <|
      (extractLsb'_append_skip _ _ 6 4).trans <| (extractLsb'_append_skip _ _ 3 4).trans <|
      (extractLsb'_append_skip _ _ 0 4).trans (extractLsb'_append_last _ _)
  · exact (extractLsb'_append_skip _ _ 0 2).trans rfl

theorem MoveActive.unassigned (m : MoveActive) :
    (byteAt m.bytes 1).getLsbD 3 = false ∧ (byteAt m.bytes 1).getLsbD 7 = false := by
  refine ⟨?_, ?_⟩
  · exact (getLsbD_append_skip _ _ 0).trans (getLsbD_append_low _ _ Nat.one_pos)
  · exact (getLsbD_append_skip _ _ 4).trans <| (getLsbD_append_skip _ _ 3).trans <|
      (getLsbD_append_skip _ _ 0).trans rfl

theorem CalReport.unassigned (c : CalReport) : (byteAt c.bytes 0).extractLsb' 3 4 = 0#4 :=
  (extractLsb'_append_skip _ _ 0 4).trans (extractLsb'_append_last _ _)

/-! ### Unassigned bits of the fixed part -/

theorem StateTelegram.fixed_unassigned (t : StateTelegram) :
    (byteAt t.encode 6).extractLsb' 3 3 = 0#3 ∧ (byteAt t.encode 7).getLsbD 6 = false ∧
      (byteAt t.encode 8).getLsbD 7 = false ∧ (byteAt t.encode 11).extractLsb' 4 3 = 0#3 ∧
      (byteAt t.encode 14).extractLsb' 4 4 = 0#4 := by
  refine ⟨?_, ?_, ?_, ?_, ?_⟩
  · exact (extractLsb'_append_skip _ _ 0 3).trans (extractLsb'_append_last _ _)
  · exact (getLsbD_append_skip _ _ 2).trans <| (getLsbD_append_skip _ _ 0).trans <|
      getLsbD_append_low _ _ Nat.one_pos
  · exact (getLsbD_append_skip _ _ 0).trans rfl
  · exact (extractLsb'_extractLsb' _ 8 3 4 (by decide)).trans <|
      (extractLsb'_append_skip _ _ 0 3).trans (extractLsb'_append_last _ _)
  · exact (extractLsb'_extractLsb' _ 16 4 4 (by decide)).trans <|
      (extractLsb'_append_skip _ _ 0 4).trans rfl

end Sys2Proof

namespace Sys2Proof.Machine

/-- Settles O22: the checks by the offsets the decoder reads at, the CRC bit by bit, and the longest
telegram by the sizes of its fields. -/
theorem telegramChecks : Obligations.TelegramChecks := by
  refine ⟨?_, ?_, ⟨rfl, crcOf_append, fun _ => rfl⟩, fun s => ?_⟩
  · intro bytes x hx
    cases x with
    | state t =>
      obtain ⟨⟨hhead, hlen, hcrc⟩, hkind, -, hsize, -⟩ := decodeTelegram_eq_state_iff.1 hx
      have hplace := fieldPlace_ge (wordAt bytes 3) 9
      exact ⟨by omega, hhead, hlen, .inl hkind, hcrc⟩
    | order o =>
      obtain ⟨⟨hhead, hlen, hcrc⟩, hkind, -, hsize, -⟩ := decodeTelegram_eq_order_iff.1 hx
      exact ⟨by omega, hhead, hlen, .inr hkind, hcrc⟩
  · intro bytes framed mask fields
    refine ⟨?_, exists_decode_order_iff bytes⟩
    rw [exists_decode_state_iff, fieldPlace_nine_eq]
    rfl
  · exact Nat.le_succ_of_le s.compose.encode_length_le

/-- Settles O21: an encoded telegram is framed and shows its contents at the offsets, and a decoded one
is what its offsets show. -/
theorem telegramRoundTrip : Obligations.TelegramRoundTrip := by
  unfold Obligations.TelegramRoundTrip
  intro byte word has place
  have hp : ∀ bytes k, place bytes k = fieldPlace (wordAt bytes 3) k := place_eq
  refine ⟨StateTelegram.decode_encode, OrderTelegram.decode_encode, ?_, ?_, ?_⟩
  · intro bytes t ht b w p
    obtain ⟨-, -, -, -, rfl⟩ := decodeTelegram_eq_state_iff.1 ht
    exact ⟨rfl, rfl, rfl, rfl, rfl, rfl, rfl, rfl, rfl, rfl, rfl, rfl, fieldAt_eq (hp bytes 0),
      fieldAt_eq (hp bytes 1), fieldAt_eq (hp bytes 2), fieldAt_eq (hp bytes 3),
      fieldAt_eq (hp bytes 4), fieldAt_eq (hp bytes 5), fieldAt_eq (hp bytes 6),
      fieldAt_eq (hp bytes 7), fieldAt_eq (hp bytes 8)⟩
  · intro bytes o ho b
    obtain ⟨-, -, -, -, rfl⟩ := decodeTelegram_eq_order_iff.1 ho
    exact ⟨rfl, rfl, rfl, rfl, rfl⟩
  · intro t bytes b p
    obtain ⟨h6, h7, h8, h11, h14⟩ := t.fixed_unassigned
    refine ⟨h6, h7, h8, h11, h14, ?_, ?_, ?_, ?_⟩
    · intro hsome
      obtain ⟨g, hg⟩ := Option.isSome_iff_exists.1 hsome
      have hb : b (p 2) = byteAt g.bytes 0 :=
        byteAt_field t (p := p 2) (j := 0) (by decide) rfl hg (hp bytes 2) (by decide : 0 < 4)
      rw [hb]
      exact g.unassigned
    · intro hsome
      obtain ⟨m, hm⟩ := Option.isSome_iff_exists.1 hsome
      have hb : b (p 4) = byteAt m.bytes 0 :=
        byteAt_field t (p := p 4) (j := 0) (by decide) rfl hm (hp bytes 4) (by decide : 0 < 3)
      have hb2 : b (p 4 + 2) = byteAt m.bytes 2 :=
        byteAt_field t (p := p 4) (j := 2) (by decide) rfl hm (hp bytes 4) (by decide : 2 < 3)
      rw [hb, hb2]
      exact m.unassigned
    · intro hsome
      obtain ⟨m, hm⟩ := Option.isSome_iff_exists.1 hsome
      have hb : b (p 5 + 1) = byteAt m.bytes 1 :=
        byteAt_field t (p := p 5) (j := 1) (by decide) rfl hm (hp bytes 5) (by decide : 1 < 2)
      rw [hb]
      exact m.unassigned
    · intro hsome
      obtain ⟨c, hc⟩ := Option.isSome_iff_exists.1 hsome
      have hb : b (p 8) = byteAt c.bytes 0 :=
        byteAt_field t (p := p 8) (j := 0) (by decide) rfl hc (hp bytes 8) (by decide : 0 < 9)
      rw [hb]
      exact c.unassigned

end Sys2Proof.Machine
